-- ==== Sys2Proof/Word.lean ====
section
/-! DEFINITION. The three word widths of the block: bytes on the bus, sensor words, host registers. -/

namespace Sys2Proof

/-- A byte: a frame byte, a slave address carrier, the CRC accumulator (R82, R83, R101). -/
abbrev Byte := BitVec 8

/-- A sensor register value: 16 bits, unsigned (R5 `WORD_BITS`). -/
abbrev Half := BitVec 16

/-- A host register or a host command word: 32 bits (R22, R70). -/
abbrev Word := BitVec 32

end Sys2Proof
end

