-- ==== Sys2Proof/Config.lean ====
section
/-! DEFINITION. Parameters of the block (00_scope.md R5) and what an implementation fixes.
The widths of R5 are the widths of the types; the CRC polynomial and initial value stand in
Machine/Pec.lean, the temperature scale in Machine/SessionCommands.lean. -/

namespace Sys2Proof

/-- `ADDR_CHECK_MODE` (R5, R157, D20): which comparison SESSION_INIT makes. OPEN; both values are
modelled, and `State.addrCheckMode` carries the one of a run (log 7). -/
inductive AddrCheckMode where
  /-- `LOW_BYTE`: the low byte of the stored word is compared. -/
  | lowByte
  /-- `FULL_WORD`: the whole stored word is compared. -/
  | fullWord
deriving DecidableEq, Repr

/-- `HOST_BASE` (R5, R60, D2): where the platform places the host window. OPEN: no body, so nothing
can be proved of its value (log 6). -/
opaque Config.hostBase : Nat

/-- The sentinel of R16 and R28 (D22): what a temperature register holds while no valid temperature
exists. -/
def Config.sentinel : Word := 0x80000000#32

/-- The identity string of R2 (D47). No rule reads it. -/
def Config.identity : String := "MLX90614-PEC-CORE/v1"

end Sys2Proof
end

