-- ==== Sys2Proof/Machine/State.lean ====
section
/-! DEFINITION. The machine's state as plain data, the reasons a step can stop, and the state after
block reset. -/

namespace Sys2Proof.Machine

/-- The error kinds of R180. Their codes are `ErrKind.code` (R90). -/
inductive ErrKind where
  | invalidAddress
  | ioError
  | crcMismatch
  | addressMismatch
  | notImplemented
  | invalidCommand
  | sessionState
deriving DecidableEq, Repr

/-! ## The bus port (R7, R85, D15) -/

/-- An answer of the bus port to `BIND(sa)`. -/
inductive BindAnswer where
  | ok
  | fail
  /-- The port never answers this request (R7, U8). -/
  | never
deriving DecidableEq, Repr

/-- An answer of the bus port to `XFER(sa, cmd)`: D0, D1 and PEC, or a failure. -/
inductive XferAnswer where
  | ok (b0 b1 b2 : Byte)
  | fail
  /-- The port never answers this request (R7, U8). -/
  | never
deriving DecidableEq, Repr

/-- A request of the block to the bus port. -/
inductive BusRequest where
  | bind (sa : Byte)
  | xfer (sa cmd : Byte)
deriving DecidableEq, Repr

/-- The bus port: the answers it will draw, in the order the block asks for each kind, and the
requests made so far, oldest first. Nothing constrains the answers; a list at its end stands for a
port that never answers again (log 1, log 4). -/
structure BusPort where
  binds : List BindAnswer
  xfers : List XferAnswer
  log : List BusRequest
deriving DecidableEq, Repr

/-- What the block holds while a command is pending (R34): the command word, the bus request that
has no answer, and the sensor words staged so far, oldest first (log 2, log 9). -/
structure Pending where
  word : Word
  request : BusRequest
  staged : List Half
deriving DecidableEq, Repr

/-! ## The host port (R12, R56) -/

/-- The two kinds of host access. -/
inductive AccessKind where
  | read
  | write
deriving DecidableEq, Repr

/-- One host access: `MemRead(HOST_BASE + off, width)` or `MemWrite(HOST_BASE + off, width, value)`.
`off` is any integer, so that accesses outside the window are representable; `value` is ignored by
a read. -/
structure HostAccess where
  kind : AccessKind
  off : Int
  width : Nat
  value : Word
deriving DecidableEq, Repr

/-- What reaches the block from outside, one item a step. -/
inductive Input where
  /-- A host access (R56). -/
  | access (a : HostAccess)
  /-- The sequencer alone runs one transaction with this command byte: the model's own way to run
  an SMBUS_CMD row, issued by no host (R217, log 10). -/
  | sequence (cmd : Byte)
  /-- The block reset input (R210, R211). -/
  | blockReset
deriving DecidableEq, Repr

/-- What the host port answers to an access. -/
inductive HostResponse where
  /-- The data of a read. -/
  | readData (v : Word)
  /-- A write completed; for CMD, the command completed (R8, R23). -/
  | writeDone
  /-- HostBusError (R56). -/
  | busError
deriving DecidableEq, Repr

/-- The RESULT of one sequencer transaction (R124, R131). -/
inductive TxnResult where
  | word (v : Half)
  | error (k : ErrKind)
deriving DecidableEq, Repr

/-! ## The state -/

/-- Every piece of state the spec gives the block (R22, R33, R34), the parameter of R157, and the
model's own record of the environment. INVENTORY.md lists each field with its rule. -/
structure State where
  /-- STATUS.ERR (R24). -/
  err : BitVec 4
  /-- STATUS.VERIFIED (R24, R32). -/
  verified : Bool
  /-- STATUS.TEMP_VALID (R24). -/
  tempValid : Bool
  /-- SLAVE_ADDR.SA (R26). -/
  slaveAddr : Byte
  /-- RDATA (R27). -/
  rdata : Half
  /-- CRC_ACC (R25). -/
  crcAcc : Byte
  /-- TEMP_TA (R28). -/
  tempTa : Word
  /-- TEMP_TOBJ1 (R28). -/
  tempTobj1 : Word
  /-- TEMP_TOBJ2 (R28). -/
  tempTobj2 : Word
  /-- CONFIG (R30). -/
  config : Half
  /-- EMISSIVITY (R31). -/
  emissivity : Half
  /-- STORED_ADDR (R31). -/
  storedAddr : Half
  /-- CHIP_ID0 (R31). -/
  chipId0 : Half
  /-- CHIP_ID1 (R31). -/
  chipId1 : Half
  /-- CHIP_ID2 (R31). -/
  chipId2 : Half
  /-- CHIP_ID3 (R31). -/
  chipId3 : Half
  /-- TXN_CRC (R33, R125; log 8). -/
  txnCrc : Byte
  /-- The pending command, if any (R9, R34). -/
  pending : Option Pending
  /-- ADDR_CHECK_MODE (R5, R157): a parameter, written by nothing (log 7). -/
  addrCheckMode : AddrCheckMode
  /-- The model's own: what is still to reach the block, next first (log 3). -/
  inputs : List Input
  /-- The model's own: the bus port (log 1, log 4). -/
  bus : BusPort
  /-- The model's own: what the host port has answered, oldest first (log 4). -/
  hostOut : List HostResponse
  /-- The model's own: the result of the last transaction run alone (log 10). -/
  txnResult : Option TxnResult
deriving DecidableEq, Repr

/-- The state after block reset (R210), with no access to come and a bus port that answers nothing
(log 1, log 3, log 7). -/
def State.reset : State where
  err := 0
  verified := false
  tempValid := false
  slaveAddr := 0x00
  rdata := 0x0000
  crcAcc := 0x00
  tempTa := Config.sentinel
  tempTobj1 := Config.sentinel
  tempTobj2 := Config.sentinel
  config := 0x0000
  emissivity := 0x0000
  storedAddr := 0x0000
  chipId0 := 0x0000
  chipId1 := 0x0000
  chipId2 := 0x0000
  chipId3 := 0x0000
  txnCrc := 0x00
  pending := none
  addrCheckMode := .lowByte
  inputs := []
  bus := { binds := [], xfers := [], log := [] }
  hostOut := []
  txnResult := none

/-! ## How a step can stop -/

/-- Faults. -/
inductive Fault where
  /-- A sequencer start with a command byte 0x40 to 0xFF, which the block never emits (R81). Raised
  by the step alone, on an input no rule of the spec produces; no instruction raises it. Safe: the
  model stops where the spec gives nothing (log 15). -/
  | sensorByte
deriving DecidableEq, Repr

/-- Refusals. -/
inductive Refusal where
  /-- The instruction has no meaning in the model yet. Raised by `exec`'s arms only; every arm of
  this model has its meaning, so nothing raises it. Safe. -/
  | notModelled (mnemonic : String)
deriving DecidableEq, Repr

end Sys2Proof.Machine
end

