-- ==== Sys2Proof/Machine/Flags.lean ====
section
/-! DEFINITION. The status flags (R24, R37, R90) and the fields of CONFIG (R30). -/

namespace Sys2Proof.Machine

/-- The code STATUS.ERR takes for each error kind (R90); 0 is OK. -/
def ErrKind.code : ErrKind → BitVec 4
  | .invalidAddress => 1
  | .ioError => 2
  | .crcMismatch => 3
  | .addressMismatch => 4
  | .notImplemented => 5
  | .invalidCommand => 6
  | .sessionState => 7

/-- STATUS.ERR of a command that completed without error (R90). -/
def errOk : BitVec 4 := 0

/-- STATUS as the host reads it (R24): ERR 3:0, VERIFIED 8, TEMP_VALID 9, the rest 0. -/
def statusWord (s : State) : Word :=
  0#22 ++ BitVec.ofBool s.tempValid ++ BitVec.ofBool s.verified ++ 0#4 ++ s.err

/-! The fields of a config word (R30), by position only; no value is interpreted. -/

/-- IIR, bits 2:0. -/
def configIir (c : Half) : BitVec 3 := c.extractLsb' 0 3
/-- REPEAT_TEST, bit 3. -/
def configRepeatTest (c : Half) : BitVec 1 := c.extractLsb' 3 1
/-- RSVD, bits 5:4, stored as read. -/
def configRsvd (c : Half) : BitVec 2 := c.extractLsb' 4 2
/-- SENSOR_MODE, bit 6. -/
def configSensorMode (c : Half) : BitVec 1 := c.extractLsb' 6 1
/-- KS_SIGN, bit 7. -/
def configKsSign (c : Half) : BitVec 1 := c.extractLsb' 7 1
/-- FIR, bits 10:8. -/
def configFir (c : Half) : BitVec 3 := c.extractLsb' 8 3
/-- GAIN, bits 13:11. -/
def configGain (c : Half) : BitVec 3 := c.extractLsb' 11 3
/-- KT2_SIGN, bit 14. -/
def configKt2Sign (c : Half) : BitVec 1 := c.extractLsb' 14 1
/-- TEST_EN, bit 15. -/
def configTestEn (c : Half) : BitVec 1 := c.extractLsb' 15 1

/-! The fields of the sensor's flag register (R36), recorded for information: the block never reads
it, no host register holds it, and no instruction uses these. Read LSB first by analogy (log 18). -/

/-- POR_INIT, bit 4, active low. -/
def flagPorInit (f : Half) : BitVec 1 := f.extractLsb' 4 1
/-- EE_DEAD, bit 5, active high. -/
def flagEeDead (f : Half) : BitVec 1 := f.extractLsb' 5 1
/-- EE_BUSY, bit 7, active high. -/
def flagEeBusy (f : Half) : BitVec 1 := f.extractLsb' 7 1

end Sys2Proof.Machine
end

