-- ==== Sys2Proof/Machine/Pec.lean ====
section
/-! DEFINITION. The pure functions of the CRC-8 PEC validator (40_crc.md section 1) and of the
transaction's PEC and data word (R122, R123). -/

namespace Sys2Proof.Machine

/-- The polynomial constant of R100: x^8 + x^2 + x + 1. -/
def crcPoly : Byte := 0x07#8

/-- One iteration of R100's loop: shift left, and add the polynomial if the top bit was set; the
result is 8 bits wide (R101). -/
def crcShift (v : Byte) : Byte :=
  if v.msb then (v <<< 1) ^^^ crcPoly else v <<< 1

/-- `n` iterations of R100's loop. -/
def crcShifts : Nat → Byte → Byte
  | 0, v => v
  | n + 1, v => crcShifts n (crcShift v)

/-- `CrcStep(c, b)` (R100). -/
def crcStep (c b : Byte) : Byte := crcShifts 8 (c ^^^ b)

/-- `CrcFeed(c, bytes)` (R102): the bytes in order, no final XOR, no reflection. -/
def crcFeed (c : Byte) (bytes : List Byte) : Byte := bytes.foldl crcStep c

/-- The initial value of the accumulator (R5 `CRC_INIT`, R102). -/
def crcInit : Byte := 0x00#8

/-- The slave-address guard (R104): bit 7 is set. -/
def slaveAddrIllegal (a : Byte) : Bool := a.msb

/-- `AddrByte(a, rw)` (R82, R103). -/
def addrByte (a : Byte) (rw : Bool) : Byte := (a <<< 1) ||| (BitVec.ofBool rw).setWidth 8

/-- `CrcPutSA(c, a, rw)` (R103). -/
def crcPutSA (c a : Byte) (rw : Bool) : Except ErrKind Byte :=
  if slaveAddrIllegal a then .error .invalidAddress else .ok (crcStep c (addrByte a rw))

/-- The five bytes the PEC covers, in order (R83). -/
def frameBytes (sa cmd d0 d1 : Byte) : List Byte :=
  [addrByte sa false, cmd, addrByte sa true, d0, d1]

/-- `Pec(sa, cmd, d0, d1)` (R122). -/
def pec (sa cmd d0 d1 : Byte) : Except ErrKind Byte :=
  if slaveAddrIllegal sa then .error .invalidAddress
  else .ok (crcFeed crcInit (frameBytes sa cmd d0 d1))

/-- `Word(d0, d1)` (R54, R123): D0 is the low byte. -/
def dataWord (d0 d1 : Byte) : Half := d0.setWidth 16 ||| (d1.setWidth 16 <<< 8)

end Sys2Proof.Machine
end

