-- ==== Sys2Proof/Syntax.lean ====
section
/-! DEFINITION. The instructions: one constructor per row of spec/opcode_table.json. -/

namespace Sys2Proof

/-- One constructor per row of the opcode table. The first sixteen are the HOSTCMD rows of R71 and
R76. `readRam`, `readEeprom` (R96) and `readReservedOpc` (R77) are further names of READ's words:
the decoder answers `read` for them (R78, log 11). The last two are the SMBUS_CMD rows of R80. -/
inductive Instr where
  /-- NOP (R165). -/
  | nop
  /-- CRC_RESET (R107). -/
  | crcReset
  /-- CRC_PUT_BYTE b (R108). -/
  | crcPutByte (b : BitVec 8)
  /-- CRC_PUT_SA a, rw (R109); `rw` is the read-mode bit of R74. -/
  | crcPutSa (a : BitVec 8) (rw : Bool)
  /-- READ opc, a (R134). -/
  | read (opc : BitVec 3) (a : BitVec 8)
  /-- READ_CONFIG (R137). -/
  | readConfig
  /-- READ_FLAGS (R139). -/
  | readFlags
  /-- WRITE_EEPROM a (R140); the operand is in the encoding and ignored. -/
  | writeEeprom (a : BitVec 8)
  /-- SESSION_INIT (R155). -/
  | sessionInit
  /-- REFRESH (R160). -/
  | refresh
  /-- SESSION_CLOSE (R163). -/
  | sessionClose
  /-- RESERVED_B (R76). -/
  | reservedB
  /-- RESERVED_C (R76). -/
  | reservedC
  /-- RESERVED_D (R76). -/
  | reservedD
  /-- RESERVED_E (R76). -/
  | reservedE
  /-- RESERVED_F (R76). -/
  | reservedF
  /-- READ_RAM a (R135). -/
  | readRam (a : BitVec 8)
  /-- READ_EEPROM a (R136). -/
  | readEeprom (a : BitVec 8)
  /-- READ_RESERVED_OPC (R77): READ with an OPC of 010 to 111. -/
  | readReservedOpc (opc : BitVec 3) (a : BitVec 8)
  /-- SMBUS_RAM_READ (R80, R120): the sensor command byte 000 ADDRESS. -/
  | smbusRamRead (address : BitVec 5)
  /-- SMBUS_EEPROM_READ (R80, R120): the sensor command byte 001 ADDRESS. -/
  | smbusEepromRead (address : BitVec 5)
deriving DecidableEq, Repr

/-- The instruction the decoder answers for the words of `i` (R78, R96): READ for its three other
names, every other instruction for itself. -/
def Instr.canonical : Instr → Instr
  | .readRam a => .read 0b000#3 a
  | .readEeprom a => .read 0b001#3 a
  | .readReservedOpc opc a => .read opc a
  | i => i

/-- The two formats of the opcode table. -/
inductive Format where
  /-- HOSTCMD: a 32-bit word written to CMD (R70). -/
  | hostCmd
  /-- SMBUS_CMD: an 8-bit command byte the block emits (R80). -/
  | smbusCmd
deriving DecidableEq, Repr

/-- The format of each row. -/
def Instr.format : Instr → Format
  | .smbusRamRead _ => .smbusCmd
  | .smbusEepromRead _ => .smbusCmd
  | _ => .hostCmd

end Sys2Proof
end

