-- ==== Sys2Proof/WellFormed.lean ====
section
/-! DEFINITION. Well-formed instructions. Operand widths are in the types; the one condition a row
puts on an operand beyond its width is READ_RESERVED_OPC's. -/

namespace Sys2Proof

/-- R73: `000` is RAM and `001` is EEPROM; the other OPC values are reserved. -/
def opcDefined (opc : BitVec 3) : Bool := opc == 0b000#3 || opc == 0b001#3

/-- An instruction is well-formed when it stands for a row of the table: READ_RESERVED_OPC takes an
OPC of 010 to 111 only (R77). Out-of-range register and slave addresses are representable and
rejected by the commands themselves (R72), so they are well-formed. -/
def Instr.wellFormed : Instr → Bool
  | .readReservedOpc opc _ => !opcDefined opc
  | _ => true

end Sys2Proof
end

