-- ==== Sys2Proof/Machine/Operands.lean ====
section
/-! DEFINITION. Operand forms: the register-address check, the register address mapper and the
named sensor addresses. The slave-address guard and the address byte stand in Machine/Pec.lean. -/

namespace Sys2Proof.Machine

/-- The register-address check (R121): 0 to 31 are admitted. -/
def regAddrLegal (a : Byte) : Bool := decide (a.toNat < 32)

/-- `MapCmd(opc, a)` (R80, R120). -/
def mapCmd (opc : BitVec 3) (a : Byte) : Byte := (opc.setWidth 8 <<< 5) ||| (a &&& 0x1F#8)

/-- OPC of the RAM space (R73). -/
def opcRam : BitVec 3 := 0b000#3

/-- OPC of the EEPROM space (R73). -/
def opcEeprom : BitVec 3 := 0b001#3

/-! The named sensor words (R51, R52). -/

/-- RAM 0x06: ambient temperature. -/
def addrTa : Byte := 0x06#8
/-- RAM 0x07: object 1 temperature. -/
def addrTobj1 : Byte := 0x07#8
/-- RAM 0x08: object 2 temperature. -/
def addrTobj2 : Byte := 0x08#8
/-- EEPROM 0x04: emissivity. -/
def addrEmissivity : Byte := 0x04#8
/-- EEPROM 0x05: config register. -/
def addrConfig : Byte := 0x05#8
/-- EEPROM 0x0E: stored device address. -/
def addrStored : Byte := 0x0E#8
/-- EEPROM 0x1C: chip ID word 0. -/
def addrChipId0 : Byte := 0x1C#8
/-- EEPROM 0x1D: chip ID word 1. -/
def addrChipId1 : Byte := 0x1D#8
/-- EEPROM 0x1E: chip ID word 2. -/
def addrChipId2 : Byte := 0x1E#8
/-- EEPROM 0x1F: chip ID word 3. -/
def addrChipId3 : Byte := 0x1F#8

/-- `AddrOk(s, sa)` (R157), in each mode. -/
def addrOk (mode : AddrCheckMode) (stored : Half) (sa : Byte) : Bool :=
  match mode with
  | .lowByte => stored.setWidth 8 == sa
  | .fullWord => stored == sa.setWidth 16

end Sys2Proof.Machine
end

