-- ==== Sys2Proof/Machine/Ops.lean ====
section
/-! DEFINITION. The shared operations: ending a command (with an error, without one, or not at
all), the bus requests, the read-transaction sequencer, and running a command over the bus. -/

namespace Sys2Proof.Machine

/-- A step's outcome over this machine's types. -/
abbrev StepOutcome := Host.Outcome State Fault Refusal

/-! ## Ending a command -/

/-- Error entry, the one shared operation of R13 and R186: only STATUS.ERR is written. There is no
return operation (R187): ERR stays until the next command writes it. -/
def State.raise (k : ErrKind) (s : State) : State := { s with err := k.code }

/-- Completion without error (R9): STATUS.ERR becomes OK. -/
def State.complete (s : State) : State := { s with err := errOk }

/-- The command stays pending (R9, R34): nothing it staged takes effect and ERR is not written. -/
def State.hang (p : Pending) (s : State) : State := { s with pending := some p }

/-- The bus port after a command's requests. -/
def State.withBus (b : BusPort) (s : State) : State := { s with bus := b }

/-- Block reset (R210, R211): every register, TXN_CRC and the pending command take their reset
values. No bus request is made (R212); the environment's own fields and the parameter stay. -/
def State.blockReset (s : State) : State :=
  { State.reset with
    addrCheckMode := s.addrCheckMode
    inputs := s.inputs
    bus := s.bus
    hostOut := s.hostOut }

/-- The session check of R184 step 3 for the commands that need a session. -/
def requireSession (s : State) (body : StepOutcome) : StepOutcome :=
  if s.verified then body else .next (s.raise .sessionState)

/-! ## Bus requests (R7) -/

/-- `BusBind(sa)`: the request is made and the next answer drawn. -/
def BusPort.askBind (sa : Byte) (p : BusPort) : BindAnswer × BusPort :=
  (p.binds.headD .never, { p with binds := p.binds.tail, log := p.log ++ [.bind sa] })

/-- `BusXfer(sa, cmd)`: one combined transaction (R130), its next answer drawn. -/
def BusPort.askXfer (sa cmd : Byte) (p : BusPort) : XferAnswer × BusPort :=
  (p.xfers.headD .never, { p with xfers := p.xfers.tail, log := p.log ++ [.xfer sa cmd] })

/-! ## Procedures of a command -/

/-- What a running command holds: the bus port, TXN_CRC, and the sensor words read so far (R34). -/
structure Ctx where
  bus : BusPort
  txnCrc : Byte
  staged : List Half
deriving DecidableEq, Repr

/-- The context at the start of a command. -/
def Ctx.start (s : State) : Ctx := { bus := s.bus, txnCrc := s.txnCrc, staged := [] }

/-- What a procedure returns (R15), or the request that was never answered (R9). -/
inductive Res (α : Type) where
  | ok (v : α)
  | err (k : ErrKind)
  | hung (r : BusRequest)
deriving DecidableEq, Repr

/-- `let v <- P; ...` of R15: an error ends the command at once, and so does a missing answer. -/
def andThen {α β : Type} (r : Res α × Ctx) (f : α → Ctx → Res β × Ctx) : Res β × Ctx :=
  match r with
  | (.ok v, c) => f v c
  | (.err k, c) => (.err k, c)
  | (.hung q, c) => (.hung q, c)

/-- `if BusBind(sa) = Fail then raise IoError` (R155, D43). -/
def bindPort (sa : Byte) (c : Ctx) : Res Unit × Ctx :=
  match c.bus.askBind sa with
  | (.ok, p) => (.ok (), { c with bus := p })
  | (.fail, p) => (.err .ioError, { c with bus := p })
  | (.never, p) => (.hung (.bind sa), { c with bus := p })

/-- The XFER and VALIDATE phases of ReadTxn (R124, R131): one transfer, then the PEC of the five
bytes in a fresh TXN_CRC; data is returned only on a match (R125 to R128). -/
def transact (sa cmd : Byte) (c : Ctx) : Res Half × Ctx :=
  match c.bus.askXfer sa cmd with
  | (.fail, p) => (.err .ioError, { c with bus := p })
  | (.never, p) => (.hung (.xfer sa cmd), { c with bus := p })
  | (.ok b0 b1 b2, p) =>
    match pec sa cmd b0 b1 with
    | .error k => (.err k, { c with bus := p, txnCrc := crcInit })
    | .ok q =>
      if q = b2 then
        (.ok (dataWord b0 b1), { bus := p, txnCrc := q, staged := c.staged ++ [dataWord b0 b1] })
      else (.err .crcMismatch, { c with bus := p, txnCrc := q })

/-- `ReadTxn(opc, a)` (R124): the address check comes first and makes no request (R121). -/
def readTxn (sa : Byte) (opc : BitVec 3) (a : Byte) (c : Ctx) : Res Half × Ctx :=
  if regAddrLegal a then transact sa (mapCmd opc a) c else (.err .invalidAddress, c)

/-- Runs a command that uses the bus: on success everything it staged is committed in one update
and ERR is OK; on an error only ERR is written (R13, R14, R182); on a missing answer it stays
pending (R9). `w` is the command word. -/
def runCommand {α : Type} (w : Word) (s : State) (proc : Ctx → Res α × Ctx)
    (commit : α → State → State) : StepOutcome :=
  match proc (Ctx.start s) with
  | (.ok v, c) => .next (commit v { s with bus := c.bus, txnCrc := c.txnCrc }).complete
  | (.err k, c) => .next ((s.withBus c.bus).raise k)
  | (.hung r, c) => .next ((s.withBus c.bus).hang { word := w, request := r, staged := c.staged })

end Sys2Proof.Machine
end

