-- ==== Sys2Proof/Machine/CrcCommands.lean ====
section
/-! DEFINITION. The host CRC commands (40_crc.md section 2). They need no session and no bus. -/

namespace Sys2Proof.Machine

/-- CRC_RESET (R107). -/
def execCrcReset (s : State) : StepOutcome :=
  .next { s with crcAcc := crcInit }.complete

/-- CRC_PUT_BYTE b (R108). -/
def execCrcPutByte (b : BitVec 8) (s : State) : StepOutcome :=
  .next { s with crcAcc := crcStep s.crcAcc b }.complete

/-- CRC_PUT_SA a, rw (R109). -/
def execCrcPutSa (a : BitVec 8) (rw : Bool) (s : State) : StepOutcome :=
  match crcPutSA s.crcAcc a rw with
  | .error k => .next (s.raise k)
  | .ok c => .next { s with crcAcc := c }.complete

end Sys2Proof.Machine
end

