-- ==== Sys2Proof/Decode.lean ====
section
/-! DEFINITION. Decoding (R70 to R79, R80) and, after it, encoding from the same field tables. -/

namespace Sys2Proof

/-- Why bytes are no instruction. -/
inductive DecodeError where
  /-- The number of bytes is that of no format: 4 is a command word, 1 a sensor command byte (R79,
  R80). -/
  | noFormatOfLength (n : Nat)
  /-- A sensor command byte with OPCODE 010 to 111, which the block never emits (R81). -/
  | sensorOpcode (b : Byte)
deriving DecidableEq, Repr

/-! ## Fields of a command word (R70) -/

/-- CODE, bits 3:0. -/
def codeOf (w : Word) : BitVec 4 := w.extractLsb' 0 4

/-- ARG, bits 15:8. -/
def argOf (w : Word) : BitVec 8 := w.extractLsb' 8 8

/-- OPC, bits 18:16. -/
def opcOf (w : Word) : BitVec 3 := w.extractLsb' 16 3

/-- RW, bit 19. -/
def rwOf (w : Word) : Bool := w.getLsbD 19

/-- Decode of R78: CODE alone selects (R71); operands are read by R72 to R74; every other bit is
ignored (R75). Total on words. -/
def decodeWord (w : Word) : Instr :=
  match (codeOf w).toNat with
  | 0x0 => .nop
  | 0x1 => .crcReset
  | 0x2 => .crcPutByte (argOf w)
  | 0x3 => .crcPutSa (argOf w) (rwOf w)
  | 0x4 => .read (opcOf w) (argOf w)
  | 0x5 => .readConfig
  | 0x6 => .readFlags
  | 0x7 => .writeEeprom (argOf w)
  | 0x8 => .sessionInit
  | 0x9 => .refresh
  | 0xA => .sessionClose
  | 0xB => .reservedB
  | 0xC => .reservedC
  | 0xD => .reservedD
  | 0xE => .reservedE
  | _ => .reservedF

/-- Decode of a sensor command byte (R80): bits 7:5 select the space, bits 4:0 are the offset; the
other six OPCODE values are no command the block emits (R81). -/
def decodeSensorByte (b : Byte) : Except DecodeError Instr :=
  match (b.extractLsb' 5 3).toNat with
  | 0 => .ok (.smbusRamRead (b.extractLsb' 0 5))
  | 1 => .ok (.smbusEepromRead (b.extractLsb' 0 5))
  | _ => .error (.sensorOpcode b)

/-! ## Byte order of the host port (R55) -/

/-- Byte `k` of a host register is bits 8k+7 to 8k (R55). -/
def wordByte (w : Word) (k : Nat) : Byte := w.extractLsb' (8 * k) 8

/-- The four bytes of a command word, lowest address first (R55). -/
def wordBytes (w : Word) : List Byte := [wordByte w 0, wordByte w 1, wordByte w 2, wordByte w 3]

/-- The command word whose bytes, lowest address first, are given (R55). -/
def bytesWord (b0 b1 b2 b3 : Byte) : Word := b3 ++ b2 ++ b1 ++ b0

/-- The decoder on bytes: four bytes are a command word, one byte is a sensor command byte, any
other number is no instruction. -/
def decodeBytes : List Byte → Except DecodeError Instr
  | [b0, b1, b2, b3] => .ok (decodeWord (bytesWord b0 b1 b2 b3))
  | [b] => decodeSensorByte b
  | bs => .error (.noFormatOfLength bs.length)

/-! ## Encoding (R70, R80, R95) -/

/-- A command word from its fields, high bits first as R70's diagram has them. -/
def commandWord (code : BitVec 4) (arg : BitVec 8) (opc : BitVec 3) (rw : Bool) : Word :=
  0#12 ++ BitVec.ofBool rw ++ opc ++ arg ++ 0#4 ++ code

/-- The sensor command byte `{OPCODE, ADDRESS}` (R80). -/
def sensorByte (opcode : BitVec 3) (address : BitVec 5) : Byte := opcode ++ address

/-- The command word of an instruction (R95, R96); unused fields are 0. The two SMBUS_CMD rows are
single bytes, here zero-extended. -/
def encodeWord : Instr → Word
  | .nop => commandWord 0x0#4 0#8 0#3 false
  | .crcReset => commandWord 0x1#4 0#8 0#3 false
  | .crcPutByte b => commandWord 0x2#4 b 0#3 false
  | .crcPutSa a rw => commandWord 0x3#4 a 0#3 rw
  | .read opc a => commandWord 0x4#4 a opc false
  | .readConfig => commandWord 0x5#4 0#8 0#3 false
  | .readFlags => commandWord 0x6#4 0#8 0#3 false
  | .writeEeprom a => commandWord 0x7#4 a 0#3 false
  | .sessionInit => commandWord 0x8#4 0#8 0#3 false
  | .refresh => commandWord 0x9#4 0#8 0#3 false
  | .sessionClose => commandWord 0xA#4 0#8 0#3 false
  | .reservedB => commandWord 0xB#4 0#8 0#3 false
  | .reservedC => commandWord 0xC#4 0#8 0#3 false
  | .reservedD => commandWord 0xD#4 0#8 0#3 false
  | .reservedE => commandWord 0xE#4 0#8 0#3 false
  | .reservedF => commandWord 0xF#4 0#8 0#3 false
  | .readRam a => commandWord 0x4#4 a 0b000#3 false
  | .readEeprom a => commandWord 0x4#4 a 0b001#3 false
  | .readReservedOpc opc a => commandWord 0x4#4 a opc false
  | .smbusRamRead address => (sensorByte 0b000#3 address).setWidth 32
  | .smbusEepromRead address => (sensorByte 0b001#3 address).setWidth 32

/-- The bytes of an instruction, lowest address first: four of a command word, one of a sensor
command byte. -/
def encode (i : Instr) : List Byte :=
  match i.format with
  | .hostCmd => wordBytes (encodeWord i)
  | .smbusCmd => [wordByte (encodeWord i) 0]

/-! ## The opcode table's words, for the host -/

/-- Whether a table word of `nbits` bits is read as a sensor command byte. The table's two formats
share the width of eight bits when only CODE is counted: a word below 16 is then a command word
whose upper bits are 0, any other 8-bit word a sensor command byte (log 12). -/
def tableIsSensorByte (nbits w : Nat) : Bool := nbits == 8 && decide (16 ≤ w)

/-- The instruction the decoder reads from the table's word `w` of `nbits` bits; the bits above
`nbits` are 0. -/
def decodeTableWord (nbits w : Nat) : Option Instr :=
  if 32 < nbits then none
  else
    (decodeBytes (if tableIsSensorByte nbits w then [BitVec.ofNat 8 w]
      else wordBytes (BitVec.ofNat 32 w))).toOption

end Sys2Proof
end

