-- ==== Sys2Proof/Machine/ReadCommands.lean ====
section
/-! DEFINITION. The READ family of host commands (41_register_access.md section 3). -/

namespace Sys2Proof.Machine

/-- What a successful READ commits (R134). -/
def commitRead (v : Half) (s : State) : State := { s with rdata := v }

/-- READ after its session check (R134): OPC first, then ReadTxn (R184 steps 4 to 8). -/
def readCommand (w : Word) (opc : BitVec 3) (a : BitVec 8) (s : State) : StepOutcome :=
  if opcDefined opc then runCommand w s (readTxn s.slaveAddr opc a) commitRead
  else .next (s.raise .invalidCommand)

/-- READ opc, a (R134). -/
def execRead (opc : BitVec 3) (a : BitVec 8) (s : State) : StepOutcome :=
  requireSession s (readCommand (encodeWord (.read opc a)) opc a s)

/-- READ_RAM a (R135): READ with OPC 000. -/
def execReadRam (a : BitVec 8) (s : State) : StepOutcome :=
  requireSession s
    (runCommand (encodeWord (.readRam a)) s (readTxn s.slaveAddr opcRam a) commitRead)

/-- READ_EEPROM a (R136): READ with OPC 001. -/
def execReadEeprom (a : BitVec 8) (s : State) : StepOutcome :=
  requireSession s
    (runCommand (encodeWord (.readEeprom a)) s (readTxn s.slaveAddr opcEeprom a) commitRead)

/-- READ_RESERVED_OPC (R77): the session check, then InvalidCommand; no bus request. On a defined
OPC, which is not well-formed here, it is READ. -/
def execReadReservedOpc (opc : BitVec 3) (a : BitVec 8) (s : State) : StepOutcome :=
  requireSession s (readCommand (encodeWord (.readReservedOpc opc a)) opc a s)

/-- What a successful READ_CONFIG commits (R137, D46). -/
def commitReadConfig (v : Half) (s : State) : State := { s with config := v, rdata := v }

/-- READ_CONFIG (R137). -/
def execReadConfig (s : State) : StepOutcome :=
  requireSession s
    (runCommand (encodeWord .readConfig) s (readTxn s.slaveAddr opcEeprom addrConfig)
      commitReadConfig)

/-- READ_FLAGS (R139): NotImplemented in every state, no bus request. -/
def execReadFlags (s : State) : StepOutcome := .next (s.raise .notImplemented)

/-- WRITE_EEPROM a (R140): NotImplemented for every operand and in every state, no bus request. -/
def execWriteEeprom (_a : BitVec 8) (s : State) : StepOutcome := .next (s.raise .notImplemented)

end Sys2Proof.Machine
end

