-- ==== Sys2Proof/Machine/ReservedCommands.lean ====
section
/-! DEFINITION. The reserved command codes 0xB to 0xF (R76): InvalidCommand, no bus request, no
other change. -/

namespace Sys2Proof.Machine

/-- RESERVED_B (R76). -/
def execReservedB (s : State) : StepOutcome := .next (s.raise .invalidCommand)
/-- RESERVED_C (R76). -/
def execReservedC (s : State) : StepOutcome := .next (s.raise .invalidCommand)
/-- RESERVED_D (R76). -/
def execReservedD (s : State) : StepOutcome := .next (s.raise .invalidCommand)
/-- RESERVED_E (R76). -/
def execReservedE (s : State) : StepOutcome := .next (s.raise .invalidCommand)
/-- RESERVED_F (R76). -/
def execReservedF (s : State) : StepOutcome := .next (s.raise .invalidCommand)

end Sys2Proof.Machine
end

