-- ==== Sys2Proof/Machine/SensorCommands.lean ====
section
/-! DEFINITION. The two SMBUS_CMD rows: the sensor command bytes the sequencer emits (R80, R120).
Run alone, each is the XFER, VALIDATE and RESULT phases of one ReadTxn (R124, R131): it draws one
bus answer, leaves TXN_CRC as R124 writes it, and leaves the result for the calling command; it
writes no host-visible register (log 10). -/

namespace Sys2Proof.Machine

/-- One transaction of the sequencer with the command byte `cmd`, run alone. -/
def runTransaction (cmd : Byte) (s : State) : StepOutcome :=
  match transact s.slaveAddr cmd (Ctx.start s) with
  | (.ok v, c) =>
    .next { s with bus := c.bus, txnCrc := c.txnCrc, txnResult := some (.word v) }
  | (.err k, c) =>
    .next { s with bus := c.bus, txnCrc := c.txnCrc, txnResult := some (.error k) }
  | (.hung r, c) =>
    .next ((s.withBus c.bus).hang { word := cmd.setWidth 32, request := r, staged := c.staged })

/-- SMBUS_RAM_READ (R80, R120). -/
def execSmbusRamRead (address : BitVec 5) (s : State) : StepOutcome :=
  runTransaction (mapCmd opcRam (address.setWidth 8)) s

/-- SMBUS_EEPROM_READ (R80, R120). -/
def execSmbusEepromRead (address : BitVec 5) (s : State) : StepOutcome :=
  runTransaction (mapCmd opcEeprom (address.setWidth 8)) s

end Sys2Proof.Machine
end

