-- ==== Sys2Proof/Machine/SessionCommands.lean ====
section
/-! DEFINITION. The temperature converter and the session commands (42_session.md). -/

namespace Sys2Proof.Machine

/-- `Conv(raw)` (R150): 0.02 K per LSB less 273.15, in units of 0.01 degree Celsius, two's
complement; all 16 bits are magnitude (R154). -/
def convTemp (raw : Half) : Word := BitVec.ofInt 32 (2 * (raw.toNat : Int) - 27315)

/-- The seven words SESSION_INIT stages. -/
structure Diagnostics where
  stored : Half
  id0 : Half
  id1 : Half
  id2 : Half
  id3 : Half
  em : Half
  cf : Half
deriving DecidableEq, Repr

/-- The diagnostic reads of R155 after the address check. -/
def readDiagnostics (sa : Byte) (stored : Half) (c : Ctx) : Res Diagnostics × Ctx :=
  andThen (readTxn sa opcEeprom addrChipId0 c) fun id0 c =>
  andThen (readTxn sa opcEeprom addrChipId1 c) fun id1 c =>
  andThen (readTxn sa opcEeprom addrChipId2 c) fun id2 c =>
  andThen (readTxn sa opcEeprom addrChipId3 c) fun id3 c =>
  andThen (readTxn sa opcEeprom addrEmissivity c) fun em c =>
  andThen (readTxn sa opcEeprom addrConfig c) fun cf c =>
    (.ok { stored := stored, id0 := id0, id1 := id1, id2 := id2, id3 := id3, em := em, cf := cf }, c)

/-- The procedure of R155 after its session check: bind, stored address, address check, the
diagnostic reads. -/
def sessionInitProc (mode : AddrCheckMode) (sa : Byte) (c : Ctx) : Res Diagnostics × Ctx :=
  andThen (bindPort sa c) fun _ c =>
  andThen (readTxn sa opcEeprom addrStored c) fun stored c =>
    if addrOk mode stored sa then readDiagnostics sa stored c else (.err .addressMismatch, c)

/-- What a successful SESSION_INIT commits (R156). -/
def commitSessionInit (d : Diagnostics) (s : State) : State :=
  { s with
    storedAddr := d.stored
    chipId0 := d.id0
    chipId1 := d.id1
    chipId2 := d.id2
    chipId3 := d.id3
    emissivity := d.em
    config := d.cf
    verified := true }

/-- SESSION_INIT (R155 to R158). -/
def execSessionInit (s : State) : StepOutcome :=
  if s.verified then .next (s.raise .sessionState)
  else
    runCommand (encodeWord .sessionInit) s (sessionInitProc s.addrCheckMode s.slaveAddr)
      commitSessionInit

/-- The three raw words REFRESH stages. -/
structure RawTriple where
  ta : Half
  tobj1 : Half
  tobj2 : Half
deriving DecidableEq, Repr

/-- The three reads of R160, in order. -/
def refreshProc (sa : Byte) (c : Ctx) : Res RawTriple × Ctx :=
  andThen (readTxn sa opcRam addrTa c) fun ra c =>
  andThen (readTxn sa opcRam addrTobj1 c) fun r1 c =>
  andThen (readTxn sa opcRam addrTobj2 c) fun r2 c =>
    (.ok { ta := ra, tobj1 := r1, tobj2 := r2 }, c)

/-- What a successful REFRESH commits: all three temperatures at once (R160, R161). -/
def commitRefresh (r : RawTriple) (s : State) : State :=
  { s with
    tempTa := convTemp r.ta
    tempTobj1 := convTemp r.tobj1
    tempTobj2 := convTemp r.tobj2
    tempValid := true }

/-- REFRESH (R160 to R162). -/
def execRefresh (s : State) : StepOutcome :=
  requireSession s (runCommand (encodeWord .refresh) s (refreshProc s.slaveAddr) commitRefresh)

/-- SESSION_CLOSE (R163). -/
def execSessionClose (s : State) : StepOutcome :=
  .next
    { s with
      verified := false
      tempValid := false
      tempTa := Config.sentinel
      tempTobj1 := Config.sentinel
      tempTobj2 := Config.sentinel }.complete

/-- NOP (R165). -/
def execNop (s : State) : StepOutcome := .next s.complete

end Sys2Proof.Machine
end

