-- ==== Sys2Proof/Machine/Dispatch.lean ====
section
/-! DEFINITION. One arm per instruction. -/

namespace Sys2Proof.Machine

def exec (i : Instr) (s : State) : Host.Outcome State Fault Refusal :=
  match i with
  | .nop => Sys2Proof.Machine.execNop s
  | .crcReset => Sys2Proof.Machine.execCrcReset s
  | .crcPutByte b => Sys2Proof.Machine.execCrcPutByte b s
  | .crcPutSa a rw => Sys2Proof.Machine.execCrcPutSa a rw s
  | .read opc a => Sys2Proof.Machine.execRead opc a s
  | .readConfig => Sys2Proof.Machine.execReadConfig s
  | .readFlags => Sys2Proof.Machine.execReadFlags s
  | .writeEeprom a => Sys2Proof.Machine.execWriteEeprom a s
  | .sessionInit => Sys2Proof.Machine.execSessionInit s
  | .refresh => Sys2Proof.Machine.execRefresh s
  | .sessionClose => Sys2Proof.Machine.execSessionClose s
  | .reservedB => Sys2Proof.Machine.execReservedB s
  | .reservedC => Sys2Proof.Machine.execReservedC s
  | .reservedD => Sys2Proof.Machine.execReservedD s
  | .reservedE => Sys2Proof.Machine.execReservedE s
  | .reservedF => Sys2Proof.Machine.execReservedF s
  | .readRam a => Sys2Proof.Machine.execReadRam a s
  | .readEeprom a => Sys2Proof.Machine.execReadEeprom a s
  | .readReservedOpc opc a => Sys2Proof.Machine.execReadReservedOpc opc a s
  | .smbusRamRead address => Sys2Proof.Machine.execSmbusRamRead address s
  | .smbusEepromRead address => Sys2Proof.Machine.execSmbusEepromRead address s

end Sys2Proof.Machine
end

