-- ==== Sys2Proof/Machine/Registers.lean ====
section
/-! DEFINITION. The host register window (R22, R55 to R57): which register lies where, reading one,
writing one other than CMD, and reading one byte of the window. -/

namespace Sys2Proof.Machine

/-- The sixteen words of the host window (R22). -/
inductive HostReg where
  | cmd
  | status
  | slaveAddr
  | rdata
  | crc
  | tempTa
  | tempTobj1
  | tempTobj2
  | config
  | emissivity
  | storedAddr
  | chipId0
  | chipId1
  | chipId2
  | chipId3
  /-- Offset 0x3C: reads 0, ignores writes. -/
  | unmapped
deriving DecidableEq, Repr

/-- The byte offset of each register (R22). -/
def HostReg.offset : HostReg → Nat
  | .cmd => 0x00
  | .status => 0x04
  | .slaveAddr => 0x08
  | .rdata => 0x0C
  | .crc => 0x10
  | .tempTa => 0x14
  | .tempTobj1 => 0x18
  | .tempTobj2 => 0x1C
  | .config => 0x20
  | .emissivity => 0x24
  | .storedAddr => 0x28
  | .chipId0 => 0x2C
  | .chipId1 => 0x30
  | .chipId2 => 0x34
  | .chipId3 => 0x38
  | .unmapped => 0x3C

/-- The register that holds byte `off` of the window (R22). -/
def HostReg.atOffset (off : Nat) : HostReg :=
  match off / 4 with
  | 0 => .cmd
  | 1 => .status
  | 2 => .slaveAddr
  | 3 => .rdata
  | 4 => .crc
  | 5 => .tempTa
  | 6 => .tempTobj1
  | 7 => .tempTobj2
  | 8 => .config
  | 9 => .emissivity
  | 10 => .storedAddr
  | 11 => .chipId0
  | 12 => .chipId1
  | 13 => .chipId2
  | 14 => .chipId3
  | _ => .unmapped

/-- The value a host read returns (R22 to R31). CMD and offset 0x3C read 0; bits no rule names read
0. -/
def regRead (r : HostReg) (s : State) : Word :=
  match r with
  | .cmd => 0
  | .status => statusWord s
  | .slaveAddr => s.slaveAddr.setWidth 32
  | .rdata => s.rdata.setWidth 32
  | .crc => s.crcAcc.setWidth 32
  | .tempTa => s.tempTa
  | .tempTobj1 => s.tempTobj1
  | .tempTobj2 => s.tempTobj2
  | .config => s.config.setWidth 32
  | .emissivity => s.emissivity.setWidth 32
  | .storedAddr => s.storedAddr.setWidth 32
  | .chipId0 => s.chipId0.setWidth 32
  | .chipId1 => s.chipId1.setWidth 32
  | .chipId2 => s.chipId2.setWidth 32
  | .chipId3 => s.chipId3.setWidth 32
  | .unmapped => 0

/-- A host write to a register other than CMD (R26, R57, D5, D18): SLAVE_ADDR takes bits 7:0 while
no session is live; every other write is ignored. -/
def regWrite (r : HostReg) (v : Word) (s : State) : State :=
  match r with
  | .slaveAddr => if s.verified then s else { s with slaveAddr := v.setWidth 8 }
  | _ => s

/-- Byte `off` of the host window, little-endian within each register (R55). -/
def windowByte (s : State) (off : Nat) : Byte :=
  wordByte (regRead (HostReg.atOffset off) s) (off % 4)

/-- Whether R56 admits an access: 32 bits wide, aligned, inside the window. -/
def HostAccess.admitted (a : HostAccess) : Bool :=
  a.width == 4 && decide (a.off % 4 = 0) && decide (0 ≤ a.off) && decide (a.off ≤ 0x3C)

/-- The register an admitted access names. -/
def HostAccess.reg (a : HostAccess) : HostReg := HostReg.atOffset a.off.toNat

/-- A 32-bit host read of a register (`LD`, R95). -/
def HostAccess.load (r : HostReg) : HostAccess :=
  { kind := .read, off := r.offset, width := 4, value := 0 }

/-- A 32-bit host write of a register (`ST`, R95). -/
def HostAccess.store (r : HostReg) (v : Word) : HostAccess :=
  { kind := .write, off := r.offset, width := 4, value := v }

/-- An access at an absolute address of the platform (R12, R60): its offset counts from
`HOST_BASE`. -/
def HostAccess.atAddress (kind : AccessKind) (addr width : Nat) (value : Word) : HostAccess :=
  { kind := kind, off := (addr : Int) - Config.hostBase, width := width, value := value }

end Sys2Proof.Machine
end

