-- ==== Sys2Proof/Machine/HostPort.lean ====
section
/-! DEFINITION. What one item of the input queue does: a host access (R56, R57), with the command a
CMD write issues (R8, R23), and a sequencer start. -/

namespace Sys2Proof.Machine

/-- The host port answers an access. -/
def State.respond (r : HostResponse) (s : State) : State := { s with hostOut := s.hostOut ++ [r] }

/-- The next input is taken; the rest stays queued. -/
def State.withInputs (rest : List Input) (s : State) : State := { s with inputs := rest }

/-- The end of a CMD write (R8): it completes when the command has completed; a command that stays
pending holds the word as written (R34), and its write does not complete. -/
def finishWrite (w : Word) (o : StepOutcome) : StepOutcome :=
  match o with
  | .next t =>
    match t.pending with
    | none => .next (t.respond .writeDone)
    | some p => .next (t.hang { p with word := w })
  | .fault r => .fault r
  | .refused r => .refused r

/-- A write of `w` to CMD issues the command it encodes (R23, R78). -/
def issue (w : Word) (s : State) : StepOutcome := finishWrite w (exec (decodeWord w) s)

/-- `HostAccess` of R56. -/
def hostAccess (a : HostAccess) (s : State) : StepOutcome :=
  if a.admitted then
    match a.kind, a.reg with
    | .read, r => .next (s.respond (.readData (regRead r s)))
    | .write, .cmd => issue a.value s
    | .write, r => .next ((regWrite r a.value s).respond .writeDone)
  else .next (s.respond .busError)

/-- The sequencer runs one command byte alone (log 10). -/
def startSequence (cmd : Byte) (s : State) : StepOutcome :=
  match decodeSensorByte cmd with
  | .ok i => exec i s
  | .error _ => .fault .sensorByte

/-- The input that runs the table's word `w` of `nbits` bits: a sequencer start for a sensor command
byte, a host write to CMD for a command word. -/
def tableInput (nbits w : Nat) : Input :=
  if tableIsSensorByte nbits w then .sequence (BitVec.ofNat 8 w)
  else .access (HostAccess.store .cmd (BitVec.ofNat 32 w))

end Sys2Proof.Machine
end

