-- ==== Sys2Proof/Machine/Step.lean ====
section
/-! DEFINITION. One step: the next item of the input queue takes effect. -/

namespace Sys2Proof.Machine

/-- One step. Block reset acts at any time, also on a pending command (R211). Any other input waits
while a command is pending: the host port is stalled and the step changes nothing (R8, R220). With
no input the block waits (R216). -/
def step (s : State) : Host.Outcome State Fault Refusal :=
  match s.inputs with
  | [] => .next s
  | .blockReset :: rest => .next (s.withInputs rest).blockReset
  | .access a :: rest => if s.pending.isSome then .next s else hostAccess a (s.withInputs rest)
  | .sequence c :: rest => if s.pending.isSome then .next s else startSequence c (s.withInputs rest)

/-- `s` with the table's word as the very next input, and no command pending, so that `step` runs
exactly it (log 3, log 12). -/
def State.withFetchWord (s : State) (nbits w : Nat) : State :=
  { s with inputs := tableInput nbits w :: s.inputs, pending := none }

end Sys2Proof.Machine
end

