-- ==== Sys2Proof/Machine/Assembler.lean ====
section
/-! DEFINITION. The assembler lines of R95 and the pseudo-instructions of R96: each line is the host
accesses it stands for, or an assembly error. -/

namespace Sys2Proof.Machine

/-- One line of R95 or R96, its operands as numbers. -/
inductive AsmLine where
  | nop
  | crcReset
  | crcPutByte (b : Nat)
  /-- `CRC_PUT_SA a, w` (`false`) or `CRC_PUT_SA a, r` (`true`). -/
  | crcPutSa (a : Nat) (rw : Bool)
  /-- `READ opc=N, a`; `READ ram, a` is N = 0 and `READ eeprom, a` is N = 1. -/
  | read (opc a : Nat)
  | readConfig
  | readFlags
  | writeEeprom (a : Nat)
  | sessionInit
  | refresh
  | sessionClose
  | readRam (a : Nat)
  | readEeprom (a : Nat)
  | crcValue
  | crcPec (a c d0 d1 : Nat)
  /-- `LD NAME`. -/
  | ld (r : HostReg)
  /-- `ST NAME, value`, for a register other than CMD. -/
  | st (r : HostReg) (v : Nat)
deriving DecidableEq, Repr

/-- An operand that does not fit its field is an assembly error, never a truncation (R95). -/
def fits (n v : Nat) : Option (BitVec n) := if v < 2 ^ n then some (BitVec.ofNat n v) else none

/-- A command line is a store of its word to CMD (R95). -/
def commandLine (i : Instr) : List HostAccess := [HostAccess.store .cmd (encodeWord i)]

/-- The host accesses of a line, or `none` for an assembly error (R95, R96). -/
def assemble : AsmLine → Option (List HostAccess)
  | .nop => some (commandLine .nop)
  | .crcReset => some (commandLine .crcReset)
  | .crcPutByte b => (fits 8 b).map fun b => commandLine (.crcPutByte b)
  | .crcPutSa a rw => (fits 8 a).map fun a => commandLine (.crcPutSa a rw)
  | .read opc a =>
    (fits 3 opc).bind fun opc => (fits 8 a).map fun a => commandLine (.read opc a)
  | .readConfig => some (commandLine .readConfig)
  | .readFlags => some (commandLine .readFlags)
  | .writeEeprom a => (fits 8 a).map fun a => commandLine (.writeEeprom a)
  | .sessionInit => some (commandLine .sessionInit)
  | .refresh => some (commandLine .refresh)
  | .sessionClose => some (commandLine .sessionClose)
  | .readRam a => (fits 8 a).map fun a => commandLine (.readRam a)
  | .readEeprom a => (fits 8 a).map fun a => commandLine (.readEeprom a)
  | .crcValue => some [HostAccess.load .crc]
  | .crcPec a c d0 d1 =>
    (fits 8 a).bind fun a => (fits 8 c).bind fun c =>
    (fits 8 d0).bind fun d0 => (fits 8 d1).map fun d1 =>
      commandLine .crcReset ++ commandLine (.crcPutSa a false) ++ commandLine (.crcPutByte c) ++
      commandLine (.crcPutSa a true) ++ commandLine (.crcPutByte d0) ++ commandLine (.crcPutByte d1)
  | .ld r => if r = .unmapped then none else some [HostAccess.load r]
  | .st r v =>
    if r = .cmd ∨ r = .unmapped then none
    else (fits 32 v).map fun v => [HostAccess.store r v]

end Sys2Proof.Machine
end

