-- ==== Sys2Proof/Safety.lean ====
section
/-! DEFINITION. The terms claims are stated in: the invariants of the state, what a good answer of
the sensor is, and the bus requests a command's rule lists. -/

namespace Sys2Proof.Machine

/-! ## Invariants -/

/-- The range of the temperature converter (R29(c), R152). -/
abbrev TempInRange (t : Word) : Prop := -27315 ≤ t.toInt ∧ t.toInt ≤ 103755

/-- The invariants of R29, (a) to (d). -/
abbrev State.SessionInvariant (s : State) : Prop :=
  (s.tempValid = true → s.verified = true) ∧
  (s.tempValid = false →
    s.tempTa = 0x80000000#32 ∧ s.tempTobj1 = 0x80000000#32 ∧ s.tempTobj2 = 0x80000000#32) ∧
  (s.tempValid = true →
    TempInRange s.tempTa ∧ TempInRange s.tempTobj1 ∧ TempInRange s.tempTobj2) ∧
  (s.verified = true → s.slaveAddr.toNat < 0x80)

/-- STATUS.ERR holds a code of R90: 8 to 15 are never produced. -/
abbrev State.ErrCodeLegal (s : State) : Prop := s.err.toNat < 8

/-- While a command is pending, the request that has no answer is the last one made (R129, R182). -/
abbrev State.PendingIsLastRequest (s : State) : Prop :=
  s.pending.all (fun p => s.bus.log.getLast? == some p.request) = true

/-- A request the block may make for slave address `sa` (R81): BIND, or a RAM or EEPROM read. -/
def BusRequest.Legal (sa : Byte) : BusRequest → Prop
  | .bind a => a = sa
  | .xfer a cmd => a = sa ∧ cmd.toNat < 0x40

/-- The values block reset gives (R210), register by register. -/
abbrev State.AtReset (s : State) : Prop :=
  s.crcAcc = 0x00#8 ∧ s.slaveAddr = 0x00#8 ∧
  s.err = 0#4 ∧ s.verified = false ∧ s.tempValid = false ∧
  s.tempTa = 0x80000000#32 ∧ s.tempTobj1 = 0x80000000#32 ∧ s.tempTobj2 = 0x80000000#32 ∧
  s.rdata = 0#16 ∧ s.config = 0#16 ∧ s.emissivity = 0#16 ∧ s.storedAddr = 0#16 ∧
  s.chipId0 = 0#16 ∧ s.chipId1 = 0#16 ∧ s.chipId2 = 0#16 ∧ s.chipId3 = 0#16 ∧
  s.txnCrc = 0x00#8 ∧ s.pending = none

/-! ## Answers and requests -/

/-- The PEC of a transaction whose data bytes are `d0` and `d1`, for a 7-bit slave address (R83,
R122), written out from the frame. -/
def goodPec (sa cmd d0 d1 : Byte) : Byte :=
  crcFeed 0x00#8 [sa <<< 1, cmd, (sa <<< 1) ||| 0x01#8, d0, d1]

/-- The answer of a sensor that returns the word `v`, low byte first, with the matching PEC (R54,
R83). -/
def goodAnswer (sa cmd : Byte) (v : Half) : XferAnswer :=
  .ok (v.extractLsb' 0 8) (v.extractLsb' 8 8)
    (goodPec sa cmd (v.extractLsb' 0 8) (v.extractLsb' 8 8))

/-- An answer that ends a read for a 7-bit slave address, with the error code it gives: `Fail` is
IoError (R128), a PEC that does not match is CrcMismatch (R127). -/
def BadAnswer (sa cmd : Byte) (code : BitVec 4) : XferAnswer → Prop
  | .ok b0 b1 b2 => goodPec sa cmd b0 b1 ≠ b2 ∧ code = 3
  | .fail => code = 2
  | .never => False

/-- The command bytes of SESSION_INIT's reads, in order (R155). -/
def sessionInitBytes : List Byte := [0x2E, 0x3C, 0x3D, 0x3E, 0x3F, 0x24, 0x25]

/-- The command bytes of REFRESH's reads, in order (R160). -/
def refreshBytes : List Byte := [0x06, 0x07, 0x08]

/-- The bus requests of SESSION_INIT, in order (R155). -/
def sessionInitRequests (sa : Byte) : List BusRequest :=
  .bind sa :: sessionInitBytes.map (.xfer sa)

/-- The bus requests of REFRESH, in order (R160). -/
def refreshRequests (sa : Byte) : List BusRequest := refreshBytes.map (.xfer sa)

/-- The address check of R157, in each mode, written out. -/
def AddrCheckPasses (mode : AddrCheckMode) (stored : Half) (sa : Byte) : Prop :=
  match mode with
  | .lowByte => stored.extractLsb' 0 8 = sa
  | .fullWord => stored = 0x00#8 ++ sa

/-- The bus port after one XFER request was answered. -/
def BusPort.afterXfer (p : BusPort) (r : BusRequest) (rest : List XferAnswer) : BusPort :=
  { p with xfers := rest, log := p.log ++ [r] }

end Sys2Proof.Machine
end

