-- ==== Sys2Proof/Certificates/Slice0/Obligations.lean ====
section
/-! DEFINITION. The statements for the provers. Each is about `exec` on one instruction, about
`step`, or about a function the meanings are built from; `State` is any state unless a hypothesis
says otherwise. A state equation `exec i s = .next { s with ... }` says the result, the completion
and the frame at once: every field not named is unchanged, the bus port, the queues and the host
port's record among them. The block has no byte memory, so no frame speaks of one. -/

open Sys2Proof Sys2Proof.Machine

/-! ## The step and the encodings -/

/-- R8, R23: when the next input is a host write of `w` to CMD and the bytes of `w` decode to the
well-formed instruction `i`, the step is `i`'s meaning on the state with that input taken, and then
the write completes, or, if the command stays pending, the block holds the word as written (R34;
the model's reading, log 9). -/
def Obligations.StepRunsTheIssuedCommand : Prop :=
  ∀ (s : State) (w : Word) (rest : List Input) (i : Instr),
    s.pending = none → s.inputs = .access (HostAccess.store .cmd w) :: rest →
    decodeBytes (wordBytes w) = .ok i → i.wellFormed = true →
    ∃ t, exec i { s with inputs := rest } = .next t ∧
      step s = .next (match t.pending with
        | none => { t with hostOut := t.hostOut ++ [.writeDone] }
        | some p => { t with pending := some { p with word := w } })

/-- The model's choice (log 10): a sequencer start with a byte that decodes to the well-formed
instruction `i` runs `i`'s meaning on the state with that input taken. -/
def Obligations.StepRunsTheSensorCommand : Prop :=
  ∀ (s : State) (c : Byte) (rest : List Input) (i : Instr),
    s.pending = none → s.inputs = .sequence c :: rest →
    decodeBytes [c] = .ok i → i.wellFormed = true →
    step s = exec i { s with inputs := rest }

/-- The worked encodings of R96, one word per family from R95, and the two sensor command bytes of
E1 decode as the spec says. -/
def Obligations.WorkedEncodingsDecode : Prop :=
  decodeWord 0x00003102#32 = .crcPutByte 0x31#8 ∧
  decodeWord 0x00085A03#32 = .crcPutSa 0x5A#8 true ∧
  decodeWord 0x00000704#32 = .read 0b000#3 0x07#8 ∧
  decodeWord 0x00010E04#32 = .read 0b001#3 0x0E#8 ∧
  decodeWord 0x00000E07#32 = .writeEeprom 0x0E#8 ∧
  decodeWord 0x00000008#32 = .sessionInit ∧
  decodeWord 0x0000000A#32 = .sessionClose ∧
  decodeWord 0x0000000B#32 = .reservedB ∧
  decodeBytes [0x07#8] = .ok (.smbusRamRead 0x07#5) ∧
  decodeBytes [0x2E#8] = .ok (.smbusEepromRead 0x0E#5)

/-- Decode and encode agree: for every well-formed instruction, with every operand, the decoder
reads from its bytes the instruction itself, or READ where READ's words have a second name (R78,
R96). -/
def Obligations.DecodeEncodeAgree : Prop :=
  ∀ i : Instr, i.wellFormed = true → decodeBytes (encode i) = .ok i.canonical

/-- The other direction: the command word of the decoded instruction is the word with every bit
cleared that its command's encoding of R95 does not hold (R70 to R75). That is every bit the command
does not use, but for WRITE_EEPROM, which ignores ARG (R71, R72, R140) and keeps it as an operand:
the model's reading (log 11). -/
def Obligations.EncodeDecodeKeepsUsedBits : Prop :=
  ∀ w : Word,
    encodeWord (decodeWord w) = w &&&
      (if w.extractLsb' 0 4 = 2#4 ∨ w.extractLsb' 0 4 = 7#4 then 0x0000FF0F#32
       else if w.extractLsb' 0 4 = 3#4 then 0x0008FF0F#32
       else if w.extractLsb' 0 4 = 4#4 then 0x0007FF0F#32
       else 0x0000000F#32)

/-- R75: a word executes as any word with the same CODE and the same fields its command uses; in
particular as itself with bits 7:4 and 31:20 cleared. -/
def Obligations.UnusedBitsAreIgnored : Prop :=
  (∀ (w : Word) (s : State), exec (decodeWord (w &&& 0x000FFF0F#32)) s = exec (decodeWord w) s) ∧
  (∀ (w w' : Word) (s : State),
    w.extractLsb' 0 4 = w'.extractLsb' 0 4 →
    (w.extractLsb' 0 4 = 2#4 ∨ w.extractLsb' 0 4 = 3#4 ∨ w.extractLsb' 0 4 = 4#4 →
      w.extractLsb' 8 8 = w'.extractLsb' 8 8) →
    (w.extractLsb' 0 4 = 4#4 → w.extractLsb' 16 3 = w'.extractLsb' 16 3) →
    (w.extractLsb' 0 4 = 3#4 → w.getLsbD 19 = w'.getLsbD 19) →
    exec (decodeWord w) s = exec (decodeWord w') s)

/-- No instruction's meaning ends in a fault or a refusal, in any state. -/
def Obligations.EveryInstructionAnswersANextState : Prop :=
  ∀ (i : Instr) (s : State), ∃ t, exec i s = .next t

/-! ## Reset and the pending command -/

/-- R210, R212: the state after block reset holds the values of R210, and a block reset input gives
those values in every state, a pending command or not, with no bus request made. -/
def Obligations.BlockResetSetsEveryRegister : Prop :=
  State.reset.AtReset ∧
  ∀ (s : State) (rest : List Input), s.inputs = .blockReset :: rest →
    ∃ t, step s = .next t ∧ t.AtReset ∧ t.bus.log = s.bus.log

/-- R8, R220: while a command is pending the host port is stalled: a step changes nothing unless a
block reset is the next input. -/
def Obligations.PendingCommandStallsTheHostPort : Prop :=
  ∀ (s : State) (p : Pending), s.pending = some p →
    (∀ rest, s.inputs ≠ .blockReset :: rest) → step s = .next s

/-- R9, R34, R219: a command whose next answer never comes stays pending: it holds its word, the
request that has no answer and the words staged so far; no register changes and ERR is not written.
For the bind of SESSION_INIT and for every read of SESSION_INIT, REFRESH and READ_CONFIG, whether
the port says `never` or its answers have run out; `vs` are the words of the reads that were
answered well before it. READ is in ReadChecksInOrder, the sensor commands in SensorCommandFailures.
How a missing answer and a pending command are held is the model's (logs 1, 2 and 9); that TXN_CRC
keeps its value is the model's reading (log 8). -/
def Obligations.UnansweredCommandStaysPending : Prop :=
  (∀ s : State, s.verified = false → s.bus.binds.headD .never = .never →
    exec .sessionInit s = .next { s with
      pending := some { word := 0x00000008#32, request := .bind s.slaveAddr, staged := [] }
      bus := { s.bus with
        binds := s.bus.binds.tail, log := s.bus.log ++ [.bind s.slaveAddr] } }) ∧
  (∀ (s : State) (vs : List Half) (cmd : Byte) (brest : List BindAnswer)
    (rest : List XferAnswer),
    s.verified = false → (vs ≠ [] → s.slaveAddr.toNat < 0x80) →
    s.bus.binds = .ok :: brest →
    sessionInitBytes[vs.length]? = some cmd →
    (∀ st ∈ vs.head?, AddrCheckPasses s.addrCheckMode st s.slaveAddr) →
    s.bus.xfers = List.zipWith (goodAnswer s.slaveAddr) sessionInitBytes vs ++ rest →
    rest.headD .never = .never →
    exec .sessionInit s = .next { s with
      pending := some
        { word := 0x00000008#32, request := .xfer s.slaveAddr cmd, staged := vs }
      bus :=
        { binds := brest, xfers := rest.tail
          log := s.bus.log ++ (sessionInitRequests s.slaveAddr).take (vs.length + 2) } }) ∧
  (∀ (s : State) (vs : List Half) (cmd : Byte) (rest : List XferAnswer),
    s.verified = true → (vs ≠ [] → s.slaveAddr.toNat < 0x80) →
    refreshBytes[vs.length]? = some cmd →
    s.bus.xfers = List.zipWith (goodAnswer s.slaveAddr) refreshBytes vs ++ rest →
    rest.headD .never = .never →
    exec .refresh s = .next { s with
      pending := some
        { word := 0x00000009#32, request := .xfer s.slaveAddr cmd, staged := vs }
      bus := { s.bus with
        xfers := rest.tail
        log := s.bus.log ++ (refreshRequests s.slaveAddr).take (vs.length + 1) } }) ∧
  ∀ s : State, s.verified = true → s.bus.xfers.headD .never = .never →
    exec .readConfig s = .next { s with
      pending := some
        { word := 0x00000005#32, request := .xfer s.slaveAddr 0x25#8, staged := [] }
      bus := { s.bus with
        xfers := s.bus.xfers.tail, log := s.bus.log ++ [.xfer s.slaveAddr 0x25#8] } }

/-! ## The commands without a bus request -/

/-- R165: NOP writes ERR = 0 and nothing else, for every word with CODE 0. -/
def Obligations.NopOnlyClearsErr : Prop :=
  encodeWord .nop = 0x00000000#32 ∧
  (∀ w : Word, w.extractLsb' 0 4 = 0x0#4 → decodeWord w = .nop) ∧
  ∀ s : State, exec .nop s = .next { s with err := 0#4 }

/-- R107: CRC_RESET zeroes CRC_ACC, writes ERR = 0 and nothing else. -/
def Obligations.CrcResetZeroesTheAccumulator : Prop :=
  encodeWord .crcReset = 0x00000001#32 ∧
  (∀ w : Word, w.extractLsb' 0 4 = 0x1#4 → decodeWord w = .crcReset) ∧
  ∀ s : State, exec .crcReset s = .next { s with crcAcc := 0x00#8, err := 0#4 }

/-- R108: CRC_PUT_BYTE feeds ARG to CRC_ACC, writes ERR = 0 and nothing else; with the corner values
of the rule. -/
def Obligations.CrcPutByteFeedsArg : Prop :=
  (∀ b : Byte, encodeWord (.crcPutByte b) = (b.setWidth 32 <<< 8) ||| 0x2#32) ∧
  (∀ w : Word, w.extractLsb' 0 4 = 0x2#4 → decodeWord w = .crcPutByte (w.extractLsb' 8 8)) ∧
  (∀ (b : Byte) (s : State),
    exec (.crcPutByte b) s = .next { s with crcAcc := crcStep s.crcAcc b, err := 0#4 }) ∧
  (∀ b : Byte, crcStep b b = 0x00#8) ∧
  crcStep 0x00#8 0x80#8 = 0x89#8 ∧ crcStep 0x00#8 0xFF#8 = 0xF3#8 ∧
  crcStep 0x00#8 0x01#8 = 0x07#8 ∧ crcStep 0x00#8 0x31#8 = 0x97#8

/-- R104, R109: CRC_PUT_SA feeds `(a << 1) | rw` for an address below 0x80 with ERR = 0, and for
every other address only writes ERR = 1. -/
def Obligations.CrcPutSaFeedsOrRejects : Prop :=
  (∀ (a : Byte) (rw : Bool), encodeWord (.crcPutSa a rw) =
    ((if rw then 1#32 else 0#32) <<< 19) ||| (a.setWidth 32 <<< 8) ||| 0x3#32) ∧
  (∀ w : Word, w.extractLsb' 0 4 = 0x3#4 →
    decodeWord w = .crcPutSa (w.extractLsb' 8 8) (w.getLsbD 19)) ∧
  ∀ (a : Byte) (rw : Bool) (s : State),
    exec (.crcPutSa a rw) s = .next
      (if 0x80 ≤ a.toNat then { s with err := 1#4 }
       else { s with
         crcAcc := crcStep s.crcAcc ((a <<< 1) ||| (if rw then 0x01#8 else 0x00#8)), err := 0#4 })

/-- R110: value(): a host read of offset 0x10 returns CRC_ACC zero-extended and changes nothing, ERR
included; at another width it is a HostBusError. -/
def Obligations.CrcValueReadsTheAccumulator : Prop :=
  HostAccess.atAddress .read (Config.hostBase + 0x10) 4 0#32 = HostAccess.load .crc ∧
  (∀ (s : State) (rest : List Input), s.pending = none →
    s.inputs = .access (HostAccess.load .crc) :: rest →
    step s = .next { s with
      inputs := rest, hostOut := s.hostOut ++ [.readData (s.crcAcc.setWidth 32)] }) ∧
  ∀ (s : State) (n : Nat) (rest : List Input), s.pending = none → n ≠ 4 →
    s.inputs = .access { kind := .read, off := 0x10, width := n, value := 0#32 } :: rest →
    step s = .next { s with inputs := rest, hostOut := s.hostOut ++ [.busError] }

/-- R139: READ_FLAGS writes ERR = 5 (NotImplemented) in every state and nothing else. -/
def Obligations.ReadFlagsIsNotImplemented : Prop :=
  encodeWord .readFlags = 0x00000006#32 ∧
  (∀ w : Word, w.extractLsb' 0 4 = 0x6#4 → decodeWord w = .readFlags) ∧
  ∀ s : State, exec .readFlags s = .next { s with err := 5#4 }

/-- R140: WRITE_EEPROM writes ERR = 5 (NotImplemented) for every operand, in every state, and
nothing else. -/
def Obligations.WriteEepromIsNotImplemented : Prop :=
  (∀ a : Byte, encodeWord (.writeEeprom a) = (a.setWidth 32 <<< 8) ||| 0x7#32) ∧
  (∀ w : Word, w.extractLsb' 0 4 = 0x7#4 → decodeWord w = .writeEeprom (w.extractLsb' 8 8)) ∧
  ∀ (a : Byte) (s : State), exec (.writeEeprom a) s = .next { s with err := 5#4 }

/-- R163: SESSION_CLOSE ends the session, returns the temperatures to the sentinel, writes ERR = 0
and nothing else. -/
def Obligations.SessionCloseEndsTheSession : Prop :=
  encodeWord .sessionClose = 0x0000000A#32 ∧
  (∀ w : Word, w.extractLsb' 0 4 = 0xA#4 → decodeWord w = .sessionClose) ∧
  ∀ s : State, exec .sessionClose s = .next { s with
    verified := false, tempValid := false,
    tempTa := 0x80000000#32, tempTobj1 := 0x80000000#32, tempTobj2 := 0x80000000#32,
    err := 0#4 }

/-- R76: every word with CODE 0xB to 0xF only writes ERR = 6 (InvalidCommand), in every state; the
five reserved rows are the ones those words decode to. -/
def Obligations.ReservedCodesAreInvalidCommand : Prop :=
  (∀ (w : Word) (s : State), 0xB ≤ (w.extractLsb' 0 4).toNat →
    decodeWord w ∈ [Instr.reservedB, .reservedC, .reservedD, .reservedE, .reservedF] ∧
    exec (decodeWord w) s = .next { s with err := 6#4 }) ∧
  ∀ i ∈ [Instr.reservedB, .reservedC, .reservedD, .reservedE, .reservedF],
    ∀ s : State, exec i s = .next { s with err := 6#4 }

/-! ## The CRC unit -/

/-- R100, R101: CrcStep is the loop of the rule: XOR, then eight times a left shift, with the
polynomial 0x07 added when the top bit was set. -/
def Obligations.CrcStepIsTheLoop : Prop :=
  ∀ c b : Byte, crcStep c b =
    (fun v : Byte => if v.getLsbD 7 then (v <<< 1) ^^^ 0x07#8 else v <<< 1)^[8] (c ^^^ b)

/-- R106: CrcStep(c, b) is entry `c ^ b` of the table of 95_test_vectors.md V1. -/
def Obligations.CrcStepIsTheTable : Prop :=
  crcTable.length = 256 ∧
  (∀ i : Byte, crcTable[i.toNat]? = some (crcStep 0x00#8 i)) ∧
  ∀ c b : Byte, crcTable[(c ^^^ b).toNat]? = some (crcStep c b)

/-- R111: a message followed by its own CRC gives zero, and so do zero bytes alone. -/
def Obligations.CrcOfMessageAndItsCrcIsZero : Prop :=
  (∀ m : List Byte, crcFeed 0x00#8 (m ++ [crcFeed 0x00#8 m]) = 0x00#8) ∧
  ∀ n : Nat, crcFeed 0x00#8 (List.replicate n 0x00#8) = 0x00#8

/-- The validator tells apart any two byte sequences that differ in exactly one byte, from any
start value: a single corrupted byte of a frame, however many of its bits, is always detected. -/
def Obligations.CrcDetectsOneCorruptedByte : Prop :=
  ∀ (c x y : Byte) (before after : List Byte), x ≠ y →
    crcFeed c (before ++ x :: after) ≠ crcFeed c (before ++ y :: after)

/-- The validator is the cyclic redundancy check of the polynomial x^8 + x^2 + x + 1, MSB first,
start value 0, no final XOR: the CRC of a message, as a polynomial over the field of two elements,
is the remainder of the message times x^8. -/
def Obligations.CrcIsThePolynomialRemainder : Prop :=
  let poly : Byte → Polynomial (ZMod 2) := fun b =>
    ∑ i : Fin 8, if b.getLsbD i then (Polynomial.X : Polynomial (ZMod 2)) ^ (i : Nat) else 0
  ∀ m : List Byte,
    poly (crcFeed 0x00#8 m) =
      (m.foldl (fun acc b => acc * Polynomial.X ^ 8 + poly b) 0 * Polynomial.X ^ 8) %ₘ
        (Polynomial.X ^ 8 + Polynomial.X ^ 2 + Polynomial.X + 1)

/-- R122: the expected PEC: an error for a slave address with bit 7 set, else the CRC of the five
frame bytes in order. -/
def Obligations.PecCoversTheFrame : Prop :=
  ∀ sa cmd d0 d1 : Byte, pec sa cmd d0 d1 =
    if 0x80 ≤ sa.toNat then .error .invalidAddress
    else .ok (crcFeed 0x00#8 [sa <<< 1, cmd, (sa <<< 1) ||| 0x01#8, d0, d1])

/-! ## The register address mapper and the READ family -/

/-- R120: the mapper is a bijection from RAM and EEPROM offsets 0 to 31 onto the bytes 0x00 to
0x3F. -/
def Obligations.MapperIsABijection : Prop :=
  (∀ (opc : BitVec 3) (a : Byte),
    mapCmd opc a = (opc.setWidth 8 <<< 5) ||| (a &&& 0x1F#8)) ∧
  (∀ (opc : BitVec 3) (a : Byte), a.toNat < 32 →
    (mapCmd opc a).toNat = 32 * opc.toNat + a.toNat) ∧
  ∀ cmd : Byte, cmd.toNat < 0x40 →
    ∃ (opc : BitVec 3) (a : Byte), opc.toNat < 2 ∧ a.toNat < 32 ∧ mapCmd opc a = cmd ∧
      ∀ (opc' : BitVec 3) (a' : Byte), opc'.toNat < 2 → a'.toNat < 32 → mapCmd opc' a' = cmd →
        opc' = opc ∧ a' = a

/-- READ, READ_RAM and READ_EEPROM complete: in a session, with a defined OPC, a register address
below 32 and a 7-bit slave address, an answer whose PEC matches puts D0 | (D1 << 8) into RDATA after
exactly one bus request; ERR = 0, TXN_CRC holds the PEC, nothing else changes. -/
def Obligations.ReadReturnsTheWordOnAMatch : Prop :=
  ∀ (s : State) (opc : BitVec 3) (a cmd b0 b1 b2 : Byte) (rest : List XferAnswer) (i : Instr),
    i = .read opc a ∨ (opc = 0b000#3 ∧ i = .readRam a) ∨ (opc = 0b001#3 ∧ i = .readEeprom a) →
    s.verified = true → opc.toNat < 2 → a.toNat < 32 → cmd.toNat = 32 * opc.toNat + a.toNat →
    s.slaveAddr.toNat < 0x80 →
    s.bus.xfers = .ok b0 b1 b2 :: rest →
    crcFeed 0x00#8 [s.slaveAddr <<< 1, cmd, (s.slaveAddr <<< 1) ||| 0x01#8, b0, b1] = b2 →
    exec i s = .next { s with
      rdata := b1 ++ b0, txnCrc := b2, err := 0#4
      bus := { s.bus with xfers := rest, log := s.bus.log ++ [.xfer s.slaveAddr cmd] } }

/-- The checks of READ in the order of R184, each with the whole state it leaves: the first one that
fails decides, and a bus request is made only from the fourth on. After a failure TXN_CRC keeps its
value (the model's reading, log 8); a pending command holds its request (log 9). -/
def Obligations.ReadChecksInOrder : Prop :=
  ∀ (s : State) (opc : BitVec 3) (a cmd : Byte), cmd.toNat = 32 * opc.toNat % 256 + a.toNat % 32 →
    (s.verified = false → exec (.read opc a) s = .next { s with err := 7#4 }) ∧
    (s.verified = true → 2 ≤ opc.toNat → exec (.read opc a) s = .next { s with err := 6#4 }) ∧
    (s.verified = true → opc.toNat < 2 → 32 ≤ a.toNat →
      exec (.read opc a) s = .next { s with err := 1#4 }) ∧
    (s.verified = true → opc.toNat < 2 → a.toNat < 32 →
      let asked : List XferAnswer → BusPort := fun rest =>
        { s.bus with xfers := rest, log := s.bus.log ++ [.xfer s.slaveAddr cmd] }
      (∀ rest, s.bus.xfers = .fail :: rest →
        exec (.read opc a) s = .next { s with err := 2#4, bus := asked rest }) ∧
      (∀ b0 b1 b2 rest, s.bus.xfers = .ok b0 b1 b2 :: rest → 0x80 ≤ s.slaveAddr.toNat →
        exec (.read opc a) s = .next { s with err := 1#4, bus := asked rest }) ∧
      (∀ b0 b1 b2 rest, s.bus.xfers = .ok b0 b1 b2 :: rest → s.slaveAddr.toNat < 0x80 →
        goodPec s.slaveAddr cmd b0 b1 ≠ b2 →
        exec (.read opc a) s = .next { s with err := 3#4, bus := asked rest }) ∧
      (s.bus.xfers.headD .never = .never →
        exec (.read opc a) s = .next { s with
          pending := some
            { word := (opc.setWidth 32 <<< 16) ||| (a.setWidth 32 <<< 8) ||| 0x4#32
              request := .xfer s.slaveAddr cmd, staged := [] }
          bus := asked s.bus.xfers.tail }))

/-- R77: a READ with an OPC of 010 to 111 makes no bus request and only writes ERR: 7 (SessionState)
without a session, else 6 (InvalidCommand); as a decoded word and as the row READ_RESERVED_OPC. -/
def Obligations.ReservedOpcIsInvalidCommand : Prop :=
  (∀ (w : Word) (s : State), w.extractLsb' 0 4 = 4#4 → 2 ≤ (w.extractLsb' 16 3).toNat →
    exec (decodeWord w) s = .next { s with err := if s.verified then 6#4 else 7#4 }) ∧
  ∀ (opc : BitVec 3) (a : Byte) (s : State), (Instr.readReservedOpc opc a).wellFormed = true →
    exec (.readReservedOpc opc a) s = .next { s with err := if s.verified then 6#4 else 7#4 }

/-- READ_RAM, READ_EEPROM (R135, R136, R96) and READ_RESERVED_OPC (R77) are READ under another name:
the same word, and the same meaning in every state. For READ_RESERVED_OPC with a defined OPC, which
is not well-formed, that meaning is the model's choice (log 11). -/
def Obligations.PseudoInstructionsMeanRead : Prop :=
  (∀ (a : Byte) (s : State),
    encodeWord (.readRam a) = encodeWord (.read 0b000#3 a) ∧
    exec (.readRam a) s = exec (.read 0b000#3 a) s) ∧
  (∀ (a : Byte) (s : State),
    encodeWord (.readEeprom a) = encodeWord (.read 0b001#3 a) ∧
    exec (.readEeprom a) s = exec (.read 0b001#3 a) s) ∧
  ∀ (opc : BitVec 3) (a : Byte) (s : State),
    encodeWord (.readReservedOpc opc a) = encodeWord (.read opc a) ∧
    exec (.readReservedOpc opc a) s = exec (.read opc a) s

/-- R121: the register-address check, for READ with a defined OPC, READ_RAM and READ_EEPROM. In a
session a register address of 32 or more makes no bus request and writes ERR = 1; one below 32 makes
exactly one request, with the mapped command byte, and is InvalidAddress only if ERR was that before
and the command is pending. -/
def Obligations.RegisterAddressCheckComesBeforeTheBus : Prop :=
  ∀ (s t : State) (opc : BitVec 3) (a : Byte) (i : Instr), opc.toNat < 2 →
    i = .read opc a ∨ (opc = 0b000#3 ∧ i = .readRam a) ∨ (opc = 0b001#3 ∧ i = .readEeprom a) →
    exec i s = .next t → s.verified = true →
    (32 ≤ a.toNat → t = { s with err := 1#4 }) ∧
    (a.toNat < 32 →
      (∃ cmd : Byte, cmd.toNat = 32 * opc.toNat + a.toNat ∧
        t.bus.log = s.bus.log ++ [.xfer s.slaveAddr cmd]) ∧
      (s.slaveAddr.toNat < 0x80 → t.err = 1#4 → s.err = 1#4 ∧ t.pending.isSome = true))

/-- R137, success: READ_CONFIG in a session puts the EEPROM 0x05 word into CONFIG and RDATA after
one request with command byte 0x25; ERR = 0, TXN_CRC holds the PEC, nothing else changes. -/
def Obligations.ReadConfigWritesConfigAndRdata : Prop :=
  ∀ (s : State) (v : Half) (rest : List XferAnswer),
    s.verified = true → s.slaveAddr.toNat < 0x80 →
    s.bus.xfers = goodAnswer s.slaveAddr 0x25#8 v :: rest →
    exec .readConfig s = .next { s with
      config := v, rdata := v, err := 0#4
      txnCrc := goodPec s.slaveAddr 0x25#8 (v.extractLsb' 0 8) (v.extractLsb' 8 8)
      bus := { s.bus with xfers := rest, log := s.bus.log ++ [.xfer s.slaveAddr 0x25#8] } }

/-- R137, failure: READ_CONFIG without a session writes ERR = 7 only; in a session a bad answer
writes its error code only, after one request: CONFIG and RDATA keep their values. TXN_CRC keeps its
value too (the model's reading, log 8). -/
def Obligations.ReadConfigFailureChangesOnlyErr : Prop :=
  ∀ s : State,
    (s.verified = false → exec .readConfig s = .next { s with err := 7#4 }) ∧
    ∀ (bad : XferAnswer) (code : BitVec 4) (rest : List XferAnswer),
      s.verified = true → s.slaveAddr.toNat < 0x80 →
      s.bus.xfers = bad :: rest → BadAnswer s.slaveAddr 0x25#8 code bad →
      exec .readConfig s = .next { s with
        err := code
        bus := { s.bus with xfers := rest, log := s.bus.log ++ [.xfer s.slaveAddr 0x25#8] } }

/-- The model's choice (log 10): SMBUS_RAM_READ and SMBUS_EEPROM_READ, run alone, make one transfer
with their command byte; on a matching PEC the word is the result and TXN_CRC holds the PEC; no
host-visible register changes. -/
def Obligations.SensorCommandReturnsTheWord : Prop :=
  ∀ (s : State) (address : BitVec 5) (cmd b0 b1 b2 : Byte) (rest : List XferAnswer) (i : Instr),
    (i = .smbusRamRead address ∧ cmd.toNat = address.toNat) ∨
      (i = .smbusEepromRead address ∧ cmd.toNat = 32 + address.toNat) →
    s.slaveAddr.toNat < 0x80 → s.bus.xfers = .ok b0 b1 b2 :: rest →
    crcFeed 0x00#8 [s.slaveAddr <<< 1, cmd, (s.slaveAddr <<< 1) ||| 0x01#8, b0, b1] = b2 →
    exec i s = .next { s with
      txnCrc := b2, txnResult := some (.word (b1 ++ b0))
      bus := { s.bus with xfers := rest, log := s.bus.log ++ [.xfer s.slaveAddr cmd] } }

/-- The model's choice (log 10): the failures of a sensor command run alone, with the TXN_CRC that
R124 writes; and, when its transfer is never answered, the pending command it leaves, which holds
its command byte, with the last result, TXN_CRC and every other register kept (logs 1, 2 and 9). -/
def Obligations.SensorCommandFailures : Prop :=
  ∀ (s : State) (address : BitVec 5) (cmd : Byte) (rest : List XferAnswer) (i : Instr),
    (i = .smbusRamRead address ∧ cmd.toNat = address.toNat) ∨
      (i = .smbusEepromRead address ∧ cmd.toNat = 32 + address.toNat) →
    let asked : BusPort := { s.bus with xfers := rest, log := s.bus.log ++ [.xfer s.slaveAddr cmd] }
    (s.bus.xfers = .fail :: rest →
      exec i s = .next { s with txnResult := some (.error .ioError), bus := asked }) ∧
    (∀ b0 b1 b2, s.bus.xfers = .ok b0 b1 b2 :: rest → 0x80 ≤ s.slaveAddr.toNat →
      exec i s = .next { s with
        txnCrc := 0x00#8, txnResult := some (.error .invalidAddress), bus := asked }) ∧
    (∀ b0 b1 b2, s.bus.xfers = .ok b0 b1 b2 :: rest → s.slaveAddr.toNat < 0x80 →
      goodPec s.slaveAddr cmd b0 b1 ≠ b2 →
      exec i s = .next { s with
        txnCrc := goodPec s.slaveAddr cmd b0 b1
        txnResult := some (.error .crcMismatch), bus := asked }) ∧
    (s.bus.xfers.headD .never = .never → s.bus.xfers.tail = rest →
      exec i s = .next { s with
        pending := some
          { word := 0#24 ++ cmd, request := .xfer s.slaveAddr cmd, staged := [] }
        bus := asked })

/-! ## The temperature converter -/

/-- R151: the converter is exact: Conv(raw) / 100 = raw * 0.02 - 273.15 over the rationals. -/
def Obligations.ConverterIsExact : Prop :=
  ∀ raw : Half, ((convTemp raw).toInt : ℚ) / 100 = (raw.toNat : ℚ) * (2 / 100) - 27315 / 100

/-- R152: the converter's range and ends, steps of 2, strictly increasing, injective, never the
sentinel, and 18 signed bits hold every value. -/
def Obligations.ConverterRange : Prop :=
  (convTemp 0x0000#16).toInt = -27315 ∧ (convTemp 0xFFFF#16).toInt = 103755 ∧
  (∀ raw : Half, TempInRange (convTemp raw) ∧ convTemp raw ≠ 0x80000000#32 ∧
    -(2 ^ 17) ≤ (convTemp raw).toInt ∧ (convTemp raw).toInt < 2 ^ 17) ∧
  (∀ r q : Half, q.toNat = r.toNat + 1 → (convTemp q).toInt = (convTemp r).toInt + 2) ∧
  (∀ r q : Half, r.toNat < q.toNat → (convTemp r).toInt < (convTemp q).toInt) ∧
  ∀ r q : Half, convTemp r = convTemp q → r = q

/-! ## The session commands -/

/-- R155 to R157: a SESSION_INIT that gets good answers to all its requests, and a stored address
that passes the check of the mode in force, commits the seven words and VERIFIED in one update after
exactly the requests of R155, with ERR = 0 and TXN_CRC the PEC of its last read (R124; that a
command commits TXN_CRC is the model's reading, log 8), and writes nothing else; from a state with
R29's invariants TEMP_VALID stays 0 and the temperatures stay at the sentinel. -/
def Obligations.SessionInitCommitsEverythingAtOnce : Prop :=
  ∀ (s : State) (st i0 i1 i2 i3 em cf : Half) (brest : List BindAnswer)
    (xrest : List XferAnswer),
    s.verified = false → s.slaveAddr.toNat < 0x80 →
    s.bus.binds = .ok :: brest →
    s.bus.xfers =
      List.zipWith (goodAnswer s.slaveAddr) sessionInitBytes [st, i0, i1, i2, i3, em, cf] ++ xrest →
    AddrCheckPasses s.addrCheckMode st s.slaveAddr →
    exec .sessionInit s = .next { s with
      storedAddr := st, chipId0 := i0, chipId1 := i1, chipId2 := i2, chipId3 := i3
      emissivity := em, config := cf, verified := true, err := 0#4
      txnCrc := goodPec s.slaveAddr 0x25#8 (cf.extractLsb' 0 8) (cf.extractLsb' 8 8)
      bus :=
        { binds := brest, xfers := xrest, log := s.bus.log ++ sessionInitRequests s.slaveAddr } } ∧
    (s.SessionInvariant → s.tempValid = false ∧ s.tempTa = 0x80000000#32 ∧
      s.tempTobj1 = 0x80000000#32 ∧ s.tempTobj2 = 0x80000000#32)

/-- The checks of SESSION_INIT before its diagnostic reads (R155, R157, R126, R184): a live session,
a failed bind, a stored word that does not pass the check of the mode in force, and a slave address
with bit 7 set, whose first transfer is answered with data or fails. Each writes its code and
nothing else: TXN_CRC too keeps its value (the model's reading, log 8). No request follows. -/
def Obligations.SessionInitFirstChecks : Prop :=
  ∀ s : State,
    (s.verified = true → exec .sessionInit s = .next { s with err := 7#4 }) ∧
    (∀ brest, s.verified = false → s.bus.binds = .fail :: brest →
      exec .sessionInit s = .next { s with
        err := 2#4
        bus := { s.bus with binds := brest, log := s.bus.log ++ [.bind s.slaveAddr] } }) ∧
    (∀ (st : Half) (brest : List BindAnswer) (xrest : List XferAnswer),
      s.verified = false → s.slaveAddr.toNat < 0x80 → s.bus.binds = .ok :: brest →
      s.bus.xfers = goodAnswer s.slaveAddr 0x2E#8 st :: xrest →
      ¬ AddrCheckPasses s.addrCheckMode st s.slaveAddr →
      exec .sessionInit s = .next { s with
        err := 4#4
        bus :=
          { binds := brest, xfers := xrest
            log := s.bus.log ++ [.bind s.slaveAddr, .xfer s.slaveAddr 0x2E#8] } }) ∧
    (∀ (b0 b1 b2 : Byte) (brest : List BindAnswer) (xrest : List XferAnswer),
      s.verified = false → 0x80 ≤ s.slaveAddr.toNat → s.bus.binds = .ok :: brest →
      s.bus.xfers = .ok b0 b1 b2 :: xrest →
      exec .sessionInit s = .next { s with
        err := 1#4
        bus :=
          { binds := brest, xfers := xrest
            log := s.bus.log ++ [.bind s.slaveAddr, .xfer s.slaveAddr 0x2E#8] } }) ∧
    ∀ (brest : List BindAnswer) (xrest : List XferAnswer),
      s.verified = false → 0x80 ≤ s.slaveAddr.toNat → s.bus.binds = .ok :: brest →
      s.bus.xfers = .fail :: xrest →
      exec .sessionInit s = .next { s with
        err := 2#4
        bus :=
          { binds := brest, xfers := xrest
            log := s.bus.log ++ [.bind s.slaveAddr, .xfer s.slaveAddr 0x2E#8] } }

/-- R158: a SESSION_INIT whose read number `vs.length + 1` fails, after good answers with the words
`vs` to the reads before it, commits nothing: only ERR is written, and no request follows the
failing one. TXN_CRC keeps its value too (the model's reading, log 8). -/
def Obligations.SessionInitAbortsAtTheFirstBadRead : Prop :=
  ∀ (s : State) (vs : List Half) (cmd : Byte) (bad : XferAnswer) (code : BitVec 4)
    (brest : List BindAnswer) (xrest : List XferAnswer),
    s.verified = false → s.slaveAddr.toNat < 0x80 →
    s.bus.binds = .ok :: brest →
    sessionInitBytes[vs.length]? = some cmd →
    s.bus.xfers = List.zipWith (goodAnswer s.slaveAddr) sessionInitBytes vs ++ bad :: xrest →
    (∀ st ∈ vs.head?, AddrCheckPasses s.addrCheckMode st s.slaveAddr) →
    BadAnswer s.slaveAddr cmd code bad →
    exec .sessionInit s = .next { s with
      err := code
      bus :=
        { binds := brest, xfers := xrest
          log := s.bus.log ++ (sessionInitRequests s.slaveAddr).take (vs.length + 2) } }

/-- R126: with a slave address of 0x80 or more SESSION_INIT never starts a session: whatever the bus
answers, it ends in IoError or InvalidAddress, or stays pending; no register changes but ERR
(TXN_CRC by log 8), so no data is returned. -/
def Obligations.SessionInitNeverVerifiesAnEightBitAddress : Prop :=
  ∀ s t : State, 0x80 ≤ s.slaveAddr.toNat → s.verified = false →
    exec .sessionInit s = .next t →
    t.verified = false ∧ t = { s with err := t.err, pending := t.pending, bus := t.bus } ∧
    (t.err = 1#4 ∨ t.err = 2#4 ∨ (t.err = s.err ∧ t.pending.isSome = true))

/-- R160, success: REFRESH in a session converts the three words and commits them in one update
after exactly the requests of R160; TEMP_VALID = 1, ERR = 0, TXN_CRC holds the last PEC, nothing
else changes. Without a session it writes ERR = 7 only. -/
def Obligations.RefreshCommitsThreeTemperatures : Prop :=
  (∀ s : State, s.verified = false → exec .refresh s = .next { s with err := 7#4 }) ∧
  ∀ (s : State) (ra r1 r2 : Half) (rest : List XferAnswer),
    s.verified = true → s.slaveAddr.toNat < 0x80 →
    s.bus.xfers = List.zipWith (goodAnswer s.slaveAddr) refreshBytes [ra, r1, r2] ++ rest →
    exec .refresh s = .next { s with
      tempTa := BitVec.ofInt 32 (2 * (ra.toNat : Int) - 27315)
      tempTobj1 := BitVec.ofInt 32 (2 * (r1.toNat : Int) - 27315)
      tempTobj2 := BitVec.ofInt 32 (2 * (r2.toNat : Int) - 27315)
      tempValid := true, err := 0#4
      txnCrc := goodPec s.slaveAddr 0x08#8 (r2.extractLsb' 0 8) (r2.extractLsb' 8 8)
      bus := { s.bus with xfers := rest, log := s.bus.log ++ refreshRequests s.slaveAddr } }

/-- R161: a REFRESH whose read number `vs.length + 1` fails, after good answers with the words `vs`
to the reads before it, updates no field: only ERR is written, and no further read is issued
(TXN_CRC keeps its value by log 8). And in every state the four fields of the triple are written
only by a REFRESH that made all three reads and ended with ERR = 0. -/
def Obligations.RefreshIsAllOrNothing : Prop :=
  (∀ (s : State) (vs : List Half) (cmd : Byte) (bad : XferAnswer) (code : BitVec 4)
    (rest : List XferAnswer),
    s.verified = true → s.slaveAddr.toNat < 0x80 →
    refreshBytes[vs.length]? = some cmd →
    s.bus.xfers = List.zipWith (goodAnswer s.slaveAddr) refreshBytes vs ++ bad :: rest →
    BadAnswer s.slaveAddr cmd code bad →
    exec .refresh s = .next { s with
      err := code
      bus := { s.bus with
        xfers := rest
        log := s.bus.log ++ (refreshRequests s.slaveAddr).take (vs.length + 1) } }) ∧
  ∀ s t : State, exec .refresh s = .next t →
    (t.tempTa = s.tempTa ∧ t.tempTobj1 = s.tempTobj1 ∧ t.tempTobj2 = s.tempTobj2 ∧
      t.tempValid = s.tempValid) ∨
    (t.err = 0#4 ∧ t.tempValid = true ∧ t.bus.log = s.bus.log ++ refreshRequests s.slaveAddr)

/-- R162: whatever happens in a REFRESH, VERIFIED, RDATA and every diagnostic register keep their
values, and so do SLAVE_ADDR and CRC_ACC. -/
def Obligations.RefreshLeavesTheOtherRegisters : Prop :=
  ∀ s t : State, exec .refresh s = .next t →
    t = { s with
      tempTa := t.tempTa, tempTobj1 := t.tempTobj1, tempTobj2 := t.tempTobj2
      tempValid := t.tempValid, err := t.err, txnCrc := t.txnCrc, pending := t.pending
      bus := t.bus }

/-! ## The host window -/

/-- R57: the kinds of admitted host access. A read returns the register and changes no register, so
a second read returns the same; a write to SLAVE_ADDR takes bits 7:0 while no session is live and is
ignored in one; a write to CMD issues the command it encodes; every other write is ignored. -/
def Obligations.OnlyCmdWritesHaveSideEffects : Prop :=
  ∀ (s : State) (r : HostReg) (v : Word) (rest : List Input), s.pending = none →
    (s.inputs = .access (HostAccess.load r) :: rest →
      ∃ t, step s = .next t ∧ (∀ r', regRead r' t = regRead r' s) ∧
        t = { s with inputs := rest, hostOut := s.hostOut ++ [.readData (regRead r s)] }) ∧
    (s.inputs = .access (HostAccess.store .slaveAddr v) :: rest → s.verified = false →
      step s = .next { s with
        slaveAddr := v.extractLsb' 0 8
        inputs := rest, hostOut := s.hostOut ++ [.writeDone] }) ∧
    (s.inputs = .access (HostAccess.store .slaveAddr v) :: rest → s.verified = true →
      step s = .next { s with inputs := rest, hostOut := s.hostOut ++ [.writeDone] }) ∧
    (s.inputs = .access (HostAccess.store .cmd v) :: rest →
      ∃ t, exec (decodeWord v) { s with inputs := rest } = .next t ∧
        (t.pending = none → step s = .next { t with hostOut := t.hostOut ++ [.writeDone] })) ∧
    (s.inputs = .access (HostAccess.store r v) :: rest → r ≠ .cmd → r ≠ .slaveAddr →
      step s = .next { s with inputs := rest, hostOut := s.hostOut ++ [.writeDone] })

/-- R56: an access of a width other than 4, at an offset that is no multiple of 4, below 0 or above
0x3C, read or write, is answered HostBusError and changes no register, ERR included; any other
access is answered otherwise. Offsets count from HOST_BASE, whatever it is. -/
def Obligations.OtherAccessesAreHostBusErrors : Prop :=
  (∀ (kind : AccessKind) (off width : Nat) (v : Word),
    (HostAccess.atAddress kind (Config.hostBase + off) width v).off = off) ∧
  ∀ (s : State) (a : HostAccess) (rest : List Input), s.pending = none →
    s.inputs = .access a :: rest →
    (a.width ≠ 4 ∨ a.off % 4 ≠ 0 ∨ a.off < 0 ∨ 0x3C < a.off →
      step s = .next { s with inputs := rest, hostOut := s.hostOut ++ [.busError] }) ∧
    (a.width = 4 → a.off % 4 = 0 → 0 ≤ a.off → a.off ≤ 0x3C →
      ∃ r : HostReg, a.off = r.offset ∧
        (a.kind = .read →
          step s = .next { s with
            inputs := rest, hostOut := s.hostOut ++ [.readData (regRead r s)] }) ∧
        (a.kind = .write → r ≠ .cmd →
          ∃ t, step s = .next t ∧ t.hostOut = s.hostOut ++ [.writeDone]))

/-- R22, R24 to R31: what a host read returns at each of the sixteen offsets, with every bit no rule
names reading 0. -/
def Obligations.RegisterMapReads : Prop :=
  ∀ s : State,
    regRead (HostReg.atOffset 0x00) s = 0#32 ∧
    (regRead (HostReg.atOffset 0x04) s).extractLsb' 0 4 = s.err ∧
    (regRead (HostReg.atOffset 0x04) s).extractLsb' 4 4 = 0#4 ∧
    (regRead (HostReg.atOffset 0x04) s).getLsbD 8 = s.verified ∧
    (regRead (HostReg.atOffset 0x04) s).getLsbD 9 = s.tempValid ∧
    (regRead (HostReg.atOffset 0x04) s).extractLsb' 10 22 = 0#22 ∧
    regRead (HostReg.atOffset 0x08) s = 0#24 ++ s.slaveAddr ∧
    regRead (HostReg.atOffset 0x0C) s = 0#16 ++ s.rdata ∧
    regRead (HostReg.atOffset 0x10) s = 0#24 ++ s.crcAcc ∧
    regRead (HostReg.atOffset 0x14) s = s.tempTa ∧
    regRead (HostReg.atOffset 0x18) s = s.tempTobj1 ∧
    regRead (HostReg.atOffset 0x1C) s = s.tempTobj2 ∧
    regRead (HostReg.atOffset 0x20) s = 0#16 ++ s.config ∧
    regRead (HostReg.atOffset 0x24) s = 0#16 ++ s.emissivity ∧
    regRead (HostReg.atOffset 0x28) s = 0#16 ++ s.storedAddr ∧
    regRead (HostReg.atOffset 0x2C) s = 0#16 ++ s.chipId0 ∧
    regRead (HostReg.atOffset 0x30) s = 0#16 ++ s.chipId1 ∧
    regRead (HostReg.atOffset 0x34) s = 0#16 ++ s.chipId2 ∧
    regRead (HostReg.atOffset 0x38) s = 0#16 ++ s.chipId3 ∧
    regRead (HostReg.atOffset 0x3C) s = 0#32

/-- R30: the nine fields of CONFIG, high to low, are the stored word: widths 1, 1, 3, 3, 1, 1, 2, 1,
3, no bit left out and none shared. -/
def Obligations.ConfigFieldsPartitionTheWord : Prop :=
  (∀ c : Half,
    configTestEn c ++ configKt2Sign c ++ configGain c ++ configFir c ++ configKsSign c ++
      configSensorMode c ++ configRsvd c ++ configRepeatTest c ++ configIir c = c) ∧
  configIir 0x9FF4#16 = 4#3 ∧ configRepeatTest 0x9FF4#16 = 0#1 ∧ configRsvd 0x9FF4#16 = 3#2 ∧
  configSensorMode 0x9FF4#16 = 1#1 ∧ configKsSign 0x9FF4#16 = 1#1 ∧ configFir 0x9FF4#16 = 7#3 ∧
  configGain 0x9FF4#16 = 3#3 ∧ configKt2Sign 0x9FF4#16 = 0#1 ∧ configTestEn 0x9FF4#16 = 1#1

/-! ## The whole machine -/

/-- R29: every step keeps the invariants of the session state, and block reset gives them in every
state. -/
def Obligations.EveryStepKeepsTheSessionInvariant : Prop :=
  (∀ s t : State, s.SessionInvariant → step s = .next t → t.SessionInvariant) ∧
  ∀ (s : State) (rest : List Input), s.inputs = .blockReset :: rest →
    ∃ t, step s = .next t ∧ t.SessionInvariant

/-- The state after reset has the invariants of R29, a legal ERR code, and no command pending. -/
def Obligations.ResetHasTheInvariants : Prop :=
  State.reset.SessionInvariant ∧ State.reset.ErrCodeLegal ∧ State.reset.PendingIsLastRequest

/-- R90: every step keeps ERR a code of the table: 8 to 15 are never produced; and so does every
instruction on its own. -/
def Obligations.EveryStepKeepsErrALegalCode : Prop :=
  (∀ s t : State, s.ErrCodeLegal → step s = .next t → t.ErrCodeLegal) ∧
  ∀ (i : Instr) (s t : State), s.ErrCodeLegal → exec i s = .next t → t.ErrCodeLegal

/-- Every step keeps this: while a command is pending, the request without an answer is the last one
made, so nothing was issued after it. -/
def Obligations.EveryStepKeepsThePendingRequestLast : Prop :=
  ∀ s t : State, s.PendingIsLastRequest → step s = .next t → t.PendingIsLastRequest

/-- R81: from every state, the bus requests a step makes are added after the earlier ones, and each
is a BIND or a transfer with a command byte 0x00 to 0x3F, for the slave address in SLAVE_ADDR. -/
def Obligations.StepsEmitOnlyLegalRequests : Prop :=
  ∀ s t : State, step s = .next t →
    ∃ made : List BusRequest, t.bus.log = s.bus.log ++ made ∧
      ∀ r ∈ made, r.Legal s.slaveAddr

/-- R188: the block never retries. The requests of SESSION_INIT and of REFRESH are the first ones of
their rule's list, in order, each made at most once, and all of them when the command commits; any
other instruction makes at most one request, and the commands that use no bus make none. -/
def Obligations.RequestsFollowTheRuleWithoutRetry : Prop :=
  (∀ s t : State, exec .sessionInit s = .next t →
    ∃ k ≤ 8, t.bus.log = s.bus.log ++ (sessionInitRequests s.slaveAddr).take k ∧
      (s.verified = false → t.verified = true → k = 8)) ∧
  (∀ s t : State, exec .refresh s = .next t →
    ∃ k ≤ 3, t.bus.log = s.bus.log ++ (refreshRequests s.slaveAddr).take k ∧
      (s.tempValid = false → t.tempValid = true → k = 3)) ∧
  (∀ (i : Instr) (s t : State), i ≠ .sessionInit → i ≠ .refresh → exec i s = .next t →
    ∃ made : List BusRequest, made.length ≤ 1 ∧ t.bus.log = s.bus.log ++ made) ∧
  ∀ (i : Instr) (s t : State),
    i ∈ [Instr.nop, .crcReset, .readFlags, .sessionClose, .reservedB, .reservedC, .reservedD,
      .reservedE, .reservedF] ∨ (∃ b, i = .crcPutByte b) ∨ (∃ a rw, i = .crcPutSa a rw) ∨
      (∃ a, i = .writeEeprom a) →
    exec i s = .next t → t.bus = s.bus

/-- R9: a host command has one of three outcomes. Done: ERR = 0 and it is not pending. Error: ERR
holds the code of an error kind and nothing else changed but the bus port (TXN_CRC by log 8).
Pending: the block holds the command, ERR is not written and no register changed. -/
def Obligations.HostCommandsHaveThreeOutcomes : Prop :=
  ∀ (i : Instr) (s t : State), i.format = .hostCmd → exec i s = .next t →
    (t.err = 0#4 ∧ t.pending = s.pending) ∨
    (∃ k : ErrKind, t = { s with err := k.code, bus := t.bus }) ∨
    (∃ p : Pending, t = { s with pending := some p, bus := t.bus })

/-- R32: the transitions of the session state. Only SESSION_INIT takes VERIFIED from 0 to 1, with
ERR = 0, and it does so whenever it completes without error; only SESSION_CLOSE takes it from 1 to
0, and always; block reset gives 0. -/
def Obligations.SessionStateTransitions : Prop :=
  (∀ (i : Instr) (s t : State), exec i s = .next t → s.verified = false → t.verified = true →
    i = .sessionInit ∧ t.err = 0#4) ∧
  (∀ (i : Instr) (s t : State), exec i s = .next t → s.verified = true → t.verified = false →
    i = .sessionClose) ∧
  (∀ s t : State, exec .sessionInit s = .next t → t.err = 0#4 → t.pending = none →
    t.verified = true) ∧
  (∀ s t : State, exec .sessionClose s = .next t → t.verified = false) ∧
  ∀ (s : State) (rest : List Input), s.inputs = .blockReset :: rest →
    ∃ t, step s = .next t ∧ t.verified = false

/-- SLAVE_ADDR changes only by a host write to it while no session is live, or by block reset: a
step that starts in a live session and does not reset the block keeps it. -/
def Obligations.SlaveAddrIsFixedDuringASession : Prop :=
  ∀ s t : State, step s = .next t → t.slaveAddr ≠ s.slaveAddr →
    (∃ rest, s.inputs = .blockReset :: rest) ∨
    (s.verified = false ∧ ∃ v rest, s.inputs = .access (HostAccess.store .slaveAddr v) :: rest ∧
      t.slaveAddr = v.extractLsb' 0 8)

/-- The "written by" column of R22 for the commands: which instruction can change which register,
and that it has then completed without error. -/
def Obligations.RegisterWriters : Prop :=
  ∀ (i : Instr) (s t : State), i.wellFormed = true → exec i s = .next t →
    t.slaveAddr = s.slaveAddr ∧ t.addrCheckMode = s.addrCheckMode ∧
    (t.rdata ≠ s.rdata → t.err = 0#4 ∧ (i = .readConfig ∨ (∃ opc a, i = .read opc a) ∨
      (∃ a, i = .readRam a) ∨ ∃ a, i = .readEeprom a)) ∧
    (t.crcAcc ≠ s.crcAcc → t.err = 0#4 ∧ (i = .crcReset ∨ (∃ b, i = .crcPutByte b) ∨
      ∃ a rw, i = .crcPutSa a rw)) ∧
    (t.config ≠ s.config → t.err = 0#4 ∧ (i = .readConfig ∨ i = .sessionInit)) ∧
    (t.emissivity ≠ s.emissivity ∨ t.storedAddr ≠ s.storedAddr ∨ t.chipId0 ≠ s.chipId0 ∨
      t.chipId1 ≠ s.chipId1 ∨ t.chipId2 ≠ s.chipId2 ∨ t.chipId3 ≠ s.chipId3 →
      t.err = 0#4 ∧ i = .sessionInit) ∧
    (t.tempTa ≠ s.tempTa ∨ t.tempTobj1 ≠ s.tempTobj1 ∨ t.tempTobj2 ≠ s.tempTobj2 ∨
      t.tempValid ≠ s.tempValid → t.err = 0#4 ∧ (i = .refresh ∨ i = .sessionClose))

/-- D14, R125: the host's accumulator and the sequencer's are two: every command but the CRC
commands neither reads nor writes CRC_ACC. -/
def Obligations.OtherCommandsIgnoreCrcAcc : Prop :=
  ∀ (i : Instr) (s t : State) (c : Byte),
    i ≠ .crcReset → (∀ b, i ≠ .crcPutByte b) → (∀ a rw, i ≠ .crcPutSa a rw) →
    exec i s = .next t →
    t.crcAcc = s.crcAcc ∧ exec i { s with crcAcc := c } = .next { t with crcAcc := c }

/-- R65, R37: what a command does to ERR, VERIFIED and the bus depends on SLAVE_ADDR, VERIFIED, the
bus port and the parameter alone: two states that agree on those, whatever else they hold, ERR and
the pending command included, agree on VERIFIED and the bus port afterwards, and the command ends
the same way in both. Either it ends, with the same ERR (a sensor command run alone writes no ERR,
log 10) and with what was pending before; or it stays pending with the same contents in both, and
ERR is kept. -/
def Obligations.CommandsDependOnlyOnSessionAndBus : Prop :=
  ∀ (i : Instr) (s s' t t' : State),
    s.verified = s'.verified → s.slaveAddr = s'.slaveAddr → s.bus = s'.bus →
    s.addrCheckMode = s'.addrCheckMode →
    exec i s = .next t → exec i s' = .next t' →
    t.verified = t'.verified ∧ t.bus = t'.bus ∧
    ((t.pending = s.pending ∧ t'.pending = s'.pending ∧
        (i.format = .hostCmd → t.err = t'.err) ∧
        (i.format = .smbusCmd → t.err = s.err ∧ t'.err = s'.err)) ∨
      ((∃ p : Pending, t.pending = some p ∧ t'.pending = some p) ∧
        t.err = s.err ∧ t'.err = s'.err))
end

