-- ==== Sys2Proof/Laws/State.lean ====
section
/-! SUPPORT. One lemma per field per named update of State, and the update as a record: later proofs
do not unfold an update. -/

namespace Sys2Proof.Machine

/-! ## raise -/

@[simp] theorem State.raise_err (k : ErrKind) (s : State) :
    (s.raise k).err = k.code := rfl
@[simp] theorem State.raise_verified (k : ErrKind) (s : State) :
    (s.raise k).verified = s.verified := rfl
@[simp] theorem State.raise_tempValid (k : ErrKind) (s : State) :
    (s.raise k).tempValid = s.tempValid := rfl
@[simp] theorem State.raise_slaveAddr (k : ErrKind) (s : State) :
    (s.raise k).slaveAddr = s.slaveAddr := rfl
@[simp] theorem State.raise_rdata (k : ErrKind) (s : State) :
    (s.raise k).rdata = s.rdata := rfl
@[simp] theorem State.raise_crcAcc (k : ErrKind) (s : State) :
    (s.raise k).crcAcc = s.crcAcc := rfl
@[simp] theorem State.raise_tempTa (k : ErrKind) (s : State) :
    (s.raise k).tempTa = s.tempTa := rfl
@[simp] theorem State.raise_tempTobj1 (k : ErrKind) (s : State) :
    (s.raise k).tempTobj1 = s.tempTobj1 := rfl
@[simp] theorem State.raise_tempTobj2 (k : ErrKind) (s : State) :
    (s.raise k).tempTobj2 = s.tempTobj2 := rfl
@[simp] theorem State.raise_config (k : ErrKind) (s : State) :
    (s.raise k).config = s.config := rfl
@[simp] theorem State.raise_emissivity (k : ErrKind) (s : State) :
    (s.raise k).emissivity = s.emissivity := rfl
@[simp] theorem State.raise_storedAddr (k : ErrKind) (s : State) :
    (s.raise k).storedAddr = s.storedAddr := rfl
@[simp] theorem State.raise_chipId0 (k : ErrKind) (s : State) :
    (s.raise k).chipId0 = s.chipId0 := rfl
@[simp] theorem State.raise_chipId1 (k : ErrKind) (s : State) :
    (s.raise k).chipId1 = s.chipId1 := rfl
@[simp] theorem State.raise_chipId2 (k : ErrKind) (s : State) :
    (s.raise k).chipId2 = s.chipId2 := rfl
@[simp] theorem State.raise_chipId3 (k : ErrKind) (s : State) :
    (s.raise k).chipId3 = s.chipId3 := rfl
@[simp] theorem State.raise_txnCrc (k : ErrKind) (s : State) :
    (s.raise k).txnCrc = s.txnCrc := rfl
@[simp] theorem State.raise_pending (k : ErrKind) (s : State) :
    (s.raise k).pending = s.pending := rfl
@[simp] theorem State.raise_addrCheckMode (k : ErrKind) (s : State) :
    (s.raise k).addrCheckMode = s.addrCheckMode := rfl
@[simp] theorem State.raise_inputs (k : ErrKind) (s : State) :
    (s.raise k).inputs = s.inputs := rfl
@[simp] theorem State.raise_bus (k : ErrKind) (s : State) :
    (s.raise k).bus = s.bus := rfl
@[simp] theorem State.raise_hostOut (k : ErrKind) (s : State) :
    (s.raise k).hostOut = s.hostOut := rfl
@[simp] theorem State.raise_txnResult (k : ErrKind) (s : State) :
    (s.raise k).txnResult = s.txnResult := rfl

/-! ## complete -/

@[simp] theorem State.complete_err (s : State) :
    (s.complete).err = errOk := rfl
@[simp] theorem State.complete_verified (s : State) :
    (s.complete).verified = s.verified := rfl
@[simp] theorem State.complete_tempValid (s : State) :
    (s.complete).tempValid = s.tempValid := rfl
@[simp] theorem State.complete_slaveAddr (s : State) :
    (s.complete).slaveAddr = s.slaveAddr := rfl
@[simp] theorem State.complete_rdata (s : State) :
    (s.complete).rdata = s.rdata := rfl
@[simp] theorem State.complete_crcAcc (s : State) :
    (s.complete).crcAcc = s.crcAcc := rfl
@[simp] theorem State.complete_tempTa (s : State) :
    (s.complete).tempTa = s.tempTa := rfl
@[simp] theorem State.complete_tempTobj1 (s : State) :
    (s.complete).tempTobj1 = s.tempTobj1 := rfl
@[simp] theorem State.complete_tempTobj2 (s : State) :
    (s.complete).tempTobj2 = s.tempTobj2 := rfl
@[simp] theorem State.complete_config (s : State) :
    (s.complete).config = s.config := rfl
@[simp] theorem State.complete_emissivity (s : State) :
    (s.complete).emissivity = s.emissivity := rfl
@[simp] theorem State.complete_storedAddr (s : State) :
    (s.complete).storedAddr = s.storedAddr := rfl
@[simp] theorem State.complete_chipId0 (s : State) :
    (s.complete).chipId0 = s.chipId0 := rfl
@[simp] theorem State.complete_chipId1 (s : State) :
    (s.complete).chipId1 = s.chipId1 := rfl
@[simp] theorem State.complete_chipId2 (s : State) :
    (s.complete).chipId2 = s.chipId2 := rfl
@[simp] theorem State.complete_chipId3 (s : State) :
    (s.complete).chipId3 = s.chipId3 := rfl
@[simp] theorem State.complete_txnCrc (s : State) :
    (s.complete).txnCrc = s.txnCrc := rfl
@[simp] theorem State.complete_pending (s : State) :
    (s.complete).pending = s.pending := rfl
@[simp] theorem State.complete_addrCheckMode (s : State) :
    (s.complete).addrCheckMode = s.addrCheckMode := rfl
@[simp] theorem State.complete_inputs (s : State) :
    (s.complete).inputs = s.inputs := rfl
@[simp] theorem State.complete_bus (s : State) :
    (s.complete).bus = s.bus := rfl
@[simp] theorem State.complete_hostOut (s : State) :
    (s.complete).hostOut = s.hostOut := rfl
@[simp] theorem State.complete_txnResult (s : State) :
    (s.complete).txnResult = s.txnResult := rfl

/-! ## hang -/

@[simp] theorem State.hang_err (p : Pending) (s : State) :
    (s.hang p).err = s.err := rfl
@[simp] theorem State.hang_verified (p : Pending) (s : State) :
    (s.hang p).verified = s.verified := rfl
@[simp] theorem State.hang_tempValid (p : Pending) (s : State) :
    (s.hang p).tempValid = s.tempValid := rfl
@[simp] theorem State.hang_slaveAddr (p : Pending) (s : State) :
    (s.hang p).slaveAddr = s.slaveAddr := rfl
@[simp] theorem State.hang_rdata (p : Pending) (s : State) :
    (s.hang p).rdata = s.rdata := rfl
@[simp] theorem State.hang_crcAcc (p : Pending) (s : State) :
    (s.hang p).crcAcc = s.crcAcc := rfl
@[simp] theorem State.hang_tempTa (p : Pending) (s : State) :
    (s.hang p).tempTa = s.tempTa := rfl
@[simp] theorem State.hang_tempTobj1 (p : Pending) (s : State) :
    (s.hang p).tempTobj1 = s.tempTobj1 := rfl
@[simp] theorem State.hang_tempTobj2 (p : Pending) (s : State) :
    (s.hang p).tempTobj2 = s.tempTobj2 := rfl
@[simp] theorem State.hang_config (p : Pending) (s : State) :
    (s.hang p).config = s.config := rfl
@[simp] theorem State.hang_emissivity (p : Pending) (s : State) :
    (s.hang p).emissivity = s.emissivity := rfl
@[simp] theorem State.hang_storedAddr (p : Pending) (s : State) :
    (s.hang p).storedAddr = s.storedAddr := rfl
@[simp] theorem State.hang_chipId0 (p : Pending) (s : State) :
    (s.hang p).chipId0 = s.chipId0 := rfl
@[simp] theorem State.hang_chipId1 (p : Pending) (s : State) :
    (s.hang p).chipId1 = s.chipId1 := rfl
@[simp] theorem State.hang_chipId2 (p : Pending) (s : State) :
    (s.hang p).chipId2 = s.chipId2 := rfl
@[simp] theorem State.hang_chipId3 (p : Pending) (s : State) :
    (s.hang p).chipId3 = s.chipId3 := rfl
@[simp] theorem State.hang_txnCrc (p : Pending) (s : State) :
    (s.hang p).txnCrc = s.txnCrc := rfl
@[simp] theorem State.hang_pending (p : Pending) (s : State) :
    (s.hang p).pending = some p := rfl
@[simp] theorem State.hang_addrCheckMode (p : Pending) (s : State) :
    (s.hang p).addrCheckMode = s.addrCheckMode := rfl
@[simp] theorem State.hang_inputs (p : Pending) (s : State) :
    (s.hang p).inputs = s.inputs := rfl
@[simp] theorem State.hang_bus (p : Pending) (s : State) :
    (s.hang p).bus = s.bus := rfl
@[simp] theorem State.hang_hostOut (p : Pending) (s : State) :
    (s.hang p).hostOut = s.hostOut := rfl
@[simp] theorem State.hang_txnResult (p : Pending) (s : State) :
    (s.hang p).txnResult = s.txnResult := rfl

/-! ## withBus -/

@[simp] theorem State.withBus_err (b : BusPort) (s : State) :
    (s.withBus b).err = s.err := rfl
@[simp] theorem State.withBus_verified (b : BusPort) (s : State) :
    (s.withBus b).verified = s.verified := rfl
@[simp] theorem State.withBus_tempValid (b : BusPort) (s : State) :
    (s.withBus b).tempValid = s.tempValid := rfl
@[simp] theorem State.withBus_slaveAddr (b : BusPort) (s : State) :
    (s.withBus b).slaveAddr = s.slaveAddr := rfl
@[simp] theorem State.withBus_rdata (b : BusPort) (s : State) :
    (s.withBus b).rdata = s.rdata := rfl
@[simp] theorem State.withBus_crcAcc (b : BusPort) (s : State) :
    (s.withBus b).crcAcc = s.crcAcc := rfl
@[simp] theorem State.withBus_tempTa (b : BusPort) (s : State) :
    (s.withBus b).tempTa = s.tempTa := rfl
@[simp] theorem State.withBus_tempTobj1 (b : BusPort) (s : State) :
    (s.withBus b).tempTobj1 = s.tempTobj1 := rfl
@[simp] theorem State.withBus_tempTobj2 (b : BusPort) (s : State) :
    (s.withBus b).tempTobj2 = s.tempTobj2 := rfl
@[simp] theorem State.withBus_config (b : BusPort) (s : State) :
    (s.withBus b).config = s.config := rfl
@[simp] theorem State.withBus_emissivity (b : BusPort) (s : State) :
    (s.withBus b).emissivity = s.emissivity := rfl
@[simp] theorem State.withBus_storedAddr (b : BusPort) (s : State) :
    (s.withBus b).storedAddr = s.storedAddr := rfl
@[simp] theorem State.withBus_chipId0 (b : BusPort) (s : State) :
    (s.withBus b).chipId0 = s.chipId0 := rfl
@[simp] theorem State.withBus_chipId1 (b : BusPort) (s : State) :
    (s.withBus b).chipId1 = s.chipId1 := rfl
@[simp] theorem State.withBus_chipId2 (b : BusPort) (s : State) :
    (s.withBus b).chipId2 = s.chipId2 := rfl
@[simp] theorem State.withBus_chipId3 (b : BusPort) (s : State) :
    (s.withBus b).chipId3 = s.chipId3 := rfl
@[simp] theorem State.withBus_txnCrc (b : BusPort) (s : State) :
    (s.withBus b).txnCrc = s.txnCrc := rfl
@[simp] theorem State.withBus_pending (b : BusPort) (s : State) :
    (s.withBus b).pending = s.pending := rfl
@[simp] theorem State.withBus_addrCheckMode (b : BusPort) (s : State) :
    (s.withBus b).addrCheckMode = s.addrCheckMode := rfl
@[simp] theorem State.withBus_inputs (b : BusPort) (s : State) :
    (s.withBus b).inputs = s.inputs := rfl
@[simp] theorem State.withBus_bus (b : BusPort) (s : State) :
    (s.withBus b).bus = b := rfl
@[simp] theorem State.withBus_hostOut (b : BusPort) (s : State) :
    (s.withBus b).hostOut = s.hostOut := rfl
@[simp] theorem State.withBus_txnResult (b : BusPort) (s : State) :
    (s.withBus b).txnResult = s.txnResult := rfl

/-! ## respond -/

@[simp] theorem State.respond_err (r : HostResponse) (s : State) :
    (s.respond r).err = s.err := rfl
@[simp] theorem State.respond_verified (r : HostResponse) (s : State) :
    (s.respond r).verified = s.verified := rfl
@[simp] theorem State.respond_tempValid (r : HostResponse) (s : State) :
    (s.respond r).tempValid = s.tempValid := rfl
@[simp] theorem State.respond_slaveAddr (r : HostResponse) (s : State) :
    (s.respond r).slaveAddr = s.slaveAddr := rfl
@[simp] theorem State.respond_rdata (r : HostResponse) (s : State) :
    (s.respond r).rdata = s.rdata := rfl
@[simp] theorem State.respond_crcAcc (r : HostResponse) (s : State) :
    (s.respond r).crcAcc = s.crcAcc := rfl
@[simp] theorem State.respond_tempTa (r : HostResponse) (s : State) :
    (s.respond r).tempTa = s.tempTa := rfl
@[simp] theorem State.respond_tempTobj1 (r : HostResponse) (s : State) :
    (s.respond r).tempTobj1 = s.tempTobj1 := rfl
@[simp] theorem State.respond_tempTobj2 (r : HostResponse) (s : State) :
    (s.respond r).tempTobj2 = s.tempTobj2 := rfl
@[simp] theorem State.respond_config (r : HostResponse) (s : State) :
    (s.respond r).config = s.config := rfl
@[simp] theorem State.respond_emissivity (r : HostResponse) (s : State) :
    (s.respond r).emissivity = s.emissivity := rfl
@[simp] theorem State.respond_storedAddr (r : HostResponse) (s : State) :
    (s.respond r).storedAddr = s.storedAddr := rfl
@[simp] theorem State.respond_chipId0 (r : HostResponse) (s : State) :
    (s.respond r).chipId0 = s.chipId0 := rfl
@[simp] theorem State.respond_chipId1 (r : HostResponse) (s : State) :
    (s.respond r).chipId1 = s.chipId1 := rfl
@[simp] theorem State.respond_chipId2 (r : HostResponse) (s : State) :
    (s.respond r).chipId2 = s.chipId2 := rfl
@[simp] theorem State.respond_chipId3 (r : HostResponse) (s : State) :
    (s.respond r).chipId3 = s.chipId3 := rfl
@[simp] theorem State.respond_txnCrc (r : HostResponse) (s : State) :
    (s.respond r).txnCrc = s.txnCrc := rfl
@[simp] theorem State.respond_pending (r : HostResponse) (s : State) :
    (s.respond r).pending = s.pending := rfl
@[simp] theorem State.respond_addrCheckMode (r : HostResponse) (s : State) :
    (s.respond r).addrCheckMode = s.addrCheckMode := rfl
@[simp] theorem State.respond_inputs (r : HostResponse) (s : State) :
    (s.respond r).inputs = s.inputs := rfl
@[simp] theorem State.respond_bus (r : HostResponse) (s : State) :
    (s.respond r).bus = s.bus := rfl
@[simp] theorem State.respond_hostOut (r : HostResponse) (s : State) :
    (s.respond r).hostOut = s.hostOut ++ [r] := rfl
@[simp] theorem State.respond_txnResult (r : HostResponse) (s : State) :
    (s.respond r).txnResult = s.txnResult := rfl

/-! ## withInputs -/

@[simp] theorem State.withInputs_err (rest : List Input) (s : State) :
    (s.withInputs rest).err = s.err := rfl
@[simp] theorem State.withInputs_verified (rest : List Input) (s : State) :
    (s.withInputs rest).verified = s.verified := rfl
@[simp] theorem State.withInputs_tempValid (rest : List Input) (s : State) :
    (s.withInputs rest).tempValid = s.tempValid := rfl
@[simp] theorem State.withInputs_slaveAddr (rest : List Input) (s : State) :
    (s.withInputs rest).slaveAddr = s.slaveAddr := rfl
@[simp] theorem State.withInputs_rdata (rest : List Input) (s : State) :
    (s.withInputs rest).rdata = s.rdata := rfl
@[simp] theorem State.withInputs_crcAcc (rest : List Input) (s : State) :
    (s.withInputs rest).crcAcc = s.crcAcc := rfl
@[simp] theorem State.withInputs_tempTa (rest : List Input) (s : State) :
    (s.withInputs rest).tempTa = s.tempTa := rfl
@[simp] theorem State.withInputs_tempTobj1 (rest : List Input) (s : State) :
    (s.withInputs rest).tempTobj1 = s.tempTobj1 := rfl
@[simp] theorem State.withInputs_tempTobj2 (rest : List Input) (s : State) :
    (s.withInputs rest).tempTobj2 = s.tempTobj2 := rfl
@[simp] theorem State.withInputs_config (rest : List Input) (s : State) :
    (s.withInputs rest).config = s.config := rfl
@[simp] theorem State.withInputs_emissivity (rest : List Input) (s : State) :
    (s.withInputs rest).emissivity = s.emissivity := rfl
@[simp] theorem State.withInputs_storedAddr (rest : List Input) (s : State) :
    (s.withInputs rest).storedAddr = s.storedAddr := rfl
@[simp] theorem State.withInputs_chipId0 (rest : List Input) (s : State) :
    (s.withInputs rest).chipId0 = s.chipId0 := rfl
@[simp] theorem State.withInputs_chipId1 (rest : List Input) (s : State) :
    (s.withInputs rest).chipId1 = s.chipId1 := rfl
@[simp] theorem State.withInputs_chipId2 (rest : List Input) (s : State) :
    (s.withInputs rest).chipId2 = s.chipId2 := rfl
@[simp] theorem State.withInputs_chipId3 (rest : List Input) (s : State) :
    (s.withInputs rest).chipId3 = s.chipId3 := rfl
@[simp] theorem State.withInputs_txnCrc (rest : List Input) (s : State) :
    (s.withInputs rest).txnCrc = s.txnCrc := rfl
@[simp] theorem State.withInputs_pending (rest : List Input) (s : State) :
    (s.withInputs rest).pending = s.pending := rfl
@[simp] theorem State.withInputs_addrCheckMode (rest : List Input) (s : State) :
    (s.withInputs rest).addrCheckMode = s.addrCheckMode := rfl
@[simp] theorem State.withInputs_inputs (rest : List Input) (s : State) :
    (s.withInputs rest).inputs = rest := rfl
@[simp] theorem State.withInputs_bus (rest : List Input) (s : State) :
    (s.withInputs rest).bus = s.bus := rfl
@[simp] theorem State.withInputs_hostOut (rest : List Input) (s : State) :
    (s.withInputs rest).hostOut = s.hostOut := rfl
@[simp] theorem State.withInputs_txnResult (rest : List Input) (s : State) :
    (s.withInputs rest).txnResult = s.txnResult := rfl

/-! ## blockReset -/

@[simp] theorem State.blockReset_err (s : State) :
    s.blockReset.err = State.reset.err := rfl
@[simp] theorem State.blockReset_verified (s : State) :
    s.blockReset.verified = State.reset.verified := rfl
@[simp] theorem State.blockReset_tempValid (s : State) :
    s.blockReset.tempValid = State.reset.tempValid := rfl
@[simp] theorem State.blockReset_slaveAddr (s : State) :
    s.blockReset.slaveAddr = State.reset.slaveAddr := rfl
@[simp] theorem State.blockReset_rdata (s : State) :
    s.blockReset.rdata = State.reset.rdata := rfl
@[simp] theorem State.blockReset_crcAcc (s : State) :
    s.blockReset.crcAcc = State.reset.crcAcc := rfl
@[simp] theorem State.blockReset_tempTa (s : State) :
    s.blockReset.tempTa = State.reset.tempTa := rfl
@[simp] theorem State.blockReset_tempTobj1 (s : State) :
    s.blockReset.tempTobj1 = State.reset.tempTobj1 := rfl
@[simp] theorem State.blockReset_tempTobj2 (s : State) :
    s.blockReset.tempTobj2 = State.reset.tempTobj2 := rfl
@[simp] theorem State.blockReset_config (s : State) :
    s.blockReset.config = State.reset.config := rfl
@[simp] theorem State.blockReset_emissivity (s : State) :
    s.blockReset.emissivity = State.reset.emissivity := rfl
@[simp] theorem State.blockReset_storedAddr (s : State) :
    s.blockReset.storedAddr = State.reset.storedAddr := rfl
@[simp] theorem State.blockReset_chipId0 (s : State) :
    s.blockReset.chipId0 = State.reset.chipId0 := rfl
@[simp] theorem State.blockReset_chipId1 (s : State) :
    s.blockReset.chipId1 = State.reset.chipId1 := rfl
@[simp] theorem State.blockReset_chipId2 (s : State) :
    s.blockReset.chipId2 = State.reset.chipId2 := rfl
@[simp] theorem State.blockReset_chipId3 (s : State) :
    s.blockReset.chipId3 = State.reset.chipId3 := rfl
@[simp] theorem State.blockReset_txnCrc (s : State) :
    s.blockReset.txnCrc = State.reset.txnCrc := rfl
@[simp] theorem State.blockReset_pending (s : State) :
    s.blockReset.pending = State.reset.pending := rfl
@[simp] theorem State.blockReset_addrCheckMode (s : State) :
    s.blockReset.addrCheckMode = s.addrCheckMode := rfl
@[simp] theorem State.blockReset_inputs (s : State) :
    s.blockReset.inputs = s.inputs := rfl
@[simp] theorem State.blockReset_bus (s : State) :
    s.blockReset.bus = s.bus := rfl
@[simp] theorem State.blockReset_hostOut (s : State) :
    s.blockReset.hostOut = s.hostOut := rfl
@[simp] theorem State.blockReset_txnResult (s : State) :
    s.blockReset.txnResult = State.reset.txnResult := rfl

/-! ## State.reset -/

@[simp] theorem State.reset_err : State.reset.err = 0#4 := rfl
@[simp] theorem State.reset_verified : State.reset.verified = false := rfl
@[simp] theorem State.reset_tempValid : State.reset.tempValid = false := rfl
@[simp] theorem State.reset_slaveAddr : State.reset.slaveAddr = 0#8 := rfl
@[simp] theorem State.reset_rdata : State.reset.rdata = 0#16 := rfl
@[simp] theorem State.reset_crcAcc : State.reset.crcAcc = 0#8 := rfl
@[simp] theorem State.reset_tempTa : State.reset.tempTa = Config.sentinel := rfl
@[simp] theorem State.reset_tempTobj1 : State.reset.tempTobj1 = Config.sentinel := rfl
@[simp] theorem State.reset_tempTobj2 : State.reset.tempTobj2 = Config.sentinel := rfl
@[simp] theorem State.reset_config : State.reset.config = 0#16 := rfl
@[simp] theorem State.reset_emissivity : State.reset.emissivity = 0#16 := rfl
@[simp] theorem State.reset_storedAddr : State.reset.storedAddr = 0#16 := rfl
@[simp] theorem State.reset_chipId0 : State.reset.chipId0 = 0#16 := rfl
@[simp] theorem State.reset_chipId1 : State.reset.chipId1 = 0#16 := rfl
@[simp] theorem State.reset_chipId2 : State.reset.chipId2 = 0#16 := rfl
@[simp] theorem State.reset_chipId3 : State.reset.chipId3 = 0#16 := rfl
@[simp] theorem State.reset_txnCrc : State.reset.txnCrc = 0#8 := rfl
@[simp] theorem State.reset_pending : State.reset.pending = none := rfl
@[simp] theorem State.reset_txnResult : State.reset.txnResult = none := rfl

end Sys2Proof.Machine
end

