-- ==== Sys2Proof/Laws/Ops.lean ====
section
/-! SUPPORT. One lemma per shared operation that says everything it can do. -/

namespace Sys2Proof.Machine

/-! ## Error codes -/

/-- No error kind has code 0 (R90). -/
theorem ErrKind.code_ne_ok (k : ErrKind) : k.code ≠ errOk := by cases k <;> decide

/-- Every code is below 8 (R90). -/
theorem ErrKind.code_lt (k : ErrKind) : k.code.toNat < 8 := by cases k <;> decide

/-- The codes tell the kinds apart (R90). -/
theorem ErrKind.code_injective (k l : ErrKind) (h : k.code = l.code) : k = l := by
  cases k <;> cases l <;> first | rfl | exact absurd h (by decide)

/-! ## Operands -/

theorem slaveAddrIllegal_iff (a : Byte) : slaveAddrIllegal a = true ↔ 0x80 ≤ a.toNat := by
  simp [slaveAddrIllegal, BitVec.msb_eq_decide]

theorem slaveAddrIllegal_eq_false {a : Byte} (h : a.toNat < 0x80) : slaveAddrIllegal a = false := by
  rw [← Bool.not_eq_true, slaveAddrIllegal_iff]; omega

theorem addrByte_write (sa : Byte) : addrByte sa false = sa <<< 1 := by
  simp [addrByte]

theorem addrByte_read (sa : Byte) : addrByte sa true = (sa <<< 1) ||| 0x01#8 := by
  simp [addrByte]

/-- The PEC of a 7-bit slave address (R122). -/
theorem pec_of_legal {sa : Byte} (h : sa.toNat < 0x80) (cmd d0 d1 : Byte) :
    pec sa cmd d0 d1 = .ok (goodPec sa cmd d0 d1) := by
  simp [pec, slaveAddrIllegal_eq_false h, goodPec, frameBytes, addrByte_write, addrByte_read,
    crcInit]

/-- No PEC for an 8-bit slave address (R122, R126). -/
theorem pec_of_illegal {sa : Byte} (h : 0x80 ≤ sa.toNat) (cmd d0 d1 : Byte) :
    pec sa cmd d0 d1 = .error .invalidAddress := by
  simp [pec, (slaveAddrIllegal_iff sa).2 h]

/-- `D0 | (D1 << 8)` is the bytes side by side (R123). -/
theorem dataWord_eq_append (d0 d1 : Byte) : dataWord d0 d1 = d1 ++ d0 := by
  apply BitVec.eq_of_getLsbD_eq
  intro i hi
  simp only [dataWord, BitVec.getLsbD_or, BitVec.getLsbD_shiftLeft, BitVec.getLsbD_setWidth,
    BitVec.getLsbD_append]
  by_cases h : i < 8
  · simp [h, hi]
  · have h0 : d0.getLsbD i = false := BitVec.getLsbD_of_ge _ _ (by omega)
    have h1 : i - 8 < 16 := by omega
    simp [h, hi, h0, h1]

/-- A word is its two bytes, low byte first (R54). -/
theorem dataWord_bytes (v : Half) : dataWord (v.extractLsb' 0 8) (v.extractLsb' 8 8) = v := by
  rw [dataWord_eq_append]
  apply BitVec.eq_of_getLsbD_eq
  intro i hi
  rw [BitVec.getLsbD_append]
  by_cases h : i < 8
  · simp [h]
  · have h1 : i - 8 < 8 := by omega
    have h2 : 8 + (i - 8) = i := by omega
    simp [h, h1, h2]

/-! ## Bus requests and the sequencer -/

@[simp] theorem legal_bind (sa a : Byte) : BusRequest.Legal sa (.bind a) ↔ a = sa := Iff.rfl

@[simp] theorem legal_xfer (sa a cmd : Byte) :
    BusRequest.Legal sa (.xfer a cmd) ↔ a = sa ∧ cmd.toNat < 0x40 := Iff.rfl

@[simp] theorem badAnswer_ok (sa cmd : Byte) (code : BitVec 4) (b0 b1 b2 : Byte) :
    BadAnswer sa cmd code (.ok b0 b1 b2) ↔ goodPec sa cmd b0 b1 ≠ b2 ∧ code = 3 := Iff.rfl

@[simp] theorem badAnswer_fail (sa cmd : Byte) (code : BitVec 4) :
    BadAnswer sa cmd code .fail ↔ code = 2 := Iff.rfl

@[simp] theorem badAnswer_never (sa cmd : Byte) (code : BitVec 4) :
    ¬ BadAnswer sa cmd code .never := id

@[simp] theorem addrCheckPasses_lowByte (stored : Half) (sa : Byte) :
    AddrCheckPasses .lowByte stored sa ↔ stored.extractLsb' 0 8 = sa := Iff.rfl

@[simp] theorem addrCheckPasses_fullWord (stored : Half) (sa : Byte) :
    AddrCheckPasses .fullWord stored sa ↔ stored = 0x00#8 ++ sa := Iff.rfl

/-- The check the model runs is the one written out (R157). -/
theorem addrOk_iff (mode : AddrCheckMode) (stored : Half) (sa : Byte) :
    addrOk mode stored sa = true ↔ AddrCheckPasses mode stored sa := by
  cases mode
  · have h : stored.setWidth 8 = stored.extractLsb' 0 8 := by ext; simp
    simp [addrOk, h]
  · have h : sa.setWidth 16 = 0x00#8 ++ sa := by revert sa; decide +kernel
    simp [addrOk, h]

/-- MapCmd on numbers (R120). -/
theorem mapCmd_toNat (opc : BitVec 3) {a : Byte} (h : a.toNat < 32) :
    (mapCmd opc a).toNat = 32 * opc.toNat + a.toNat := by
  revert opc a; decide +kernel

/-- What BIND can do: one request, one answer taken (R7, R155). -/
theorem bindPort_cases (sa : Byte) (c : Ctx) :
    let p := (c.bus.askBind sa).2
    (c.bus.binds.headD .never = .ok ∧ bindPort sa c = (.ok (), { c with bus := p })) ∨
    (c.bus.binds.headD .never = .fail ∧ bindPort sa c = (.err .ioError, { c with bus := p })) ∨
    (c.bus.binds.headD .never = .never ∧
      bindPort sa c = (.hung (.bind sa), { c with bus := p })) := by
  simp only [bindPort, BusPort.askBind]
  cases c.bus.binds.headD .never <;> simp

/-- What a transaction can do, for a 7-bit slave address: one request, one answer taken, and data
only on a matching PEC (R124 to R128). -/
theorem transact_cases {sa : Byte} (h : sa.toNat < 0x80) (cmd : Byte) (c : Ctx) :
    let p := (c.bus.askXfer sa cmd).2
    (c.bus.xfers.headD .never = .fail ∧ transact sa cmd c = (.err .ioError, { c with bus := p })) ∨
    (c.bus.xfers.headD .never = .never ∧
      transact sa cmd c = (.hung (.xfer sa cmd), { c with bus := p })) ∨
    (∃ b0 b1 b2, c.bus.xfers.headD .never = .ok b0 b1 b2 ∧ goodPec sa cmd b0 b1 = b2 ∧
      transact sa cmd c = (.ok (dataWord b0 b1),
        { bus := p, txnCrc := b2, staged := c.staged ++ [dataWord b0 b1] })) ∨
    (∃ b0 b1 b2, c.bus.xfers.headD .never = .ok b0 b1 b2 ∧ goodPec sa cmd b0 b1 ≠ b2 ∧
      transact sa cmd c = (.err .crcMismatch,
        { c with bus := p, txnCrc := goodPec sa cmd b0 b1 })) := by
  simp only [transact, BusPort.askXfer, pec_of_legal h]
  cases c.bus.xfers.headD .never with
  | fail => simp
  | never => simp
  | ok b0 b1 b2 => by_cases hp : goodPec sa cmd b0 b1 = b2 <;> simp [hp]

/-- A transaction for an 8-bit slave address never returns data (R126). -/
theorem transact_illegal_cases {sa : Byte} (h : 0x80 ≤ sa.toNat) (cmd : Byte) (c : Ctx) :
    let p := (c.bus.askXfer sa cmd).2
    (c.bus.xfers.headD .never = .fail ∧ transact sa cmd c = (.err .ioError, { c with bus := p })) ∨
    (c.bus.xfers.headD .never = .never ∧
      transact sa cmd c = (.hung (.xfer sa cmd), { c with bus := p })) ∨
    (∃ b0 b1 b2, c.bus.xfers.headD .never = .ok b0 b1 b2 ∧
      transact sa cmd c = (.err .invalidAddress, { c with bus := p, txnCrc := 0x00#8 })) := by
  simp only [transact, BusPort.askXfer, pec_of_illegal h]
  cases c.bus.xfers.headD .never <;> simp [crcInit]

/-- A transaction's effect on the bus port, whatever the answer: one request, one answer taken. -/
theorem transact_bus (sa cmd : Byte) (c : Ctx) :
    (transact sa cmd c).2.bus = (c.bus.askXfer sa cmd).2 := by
  simp only [transact, BusPort.askXfer]
  cases c.bus.xfers.headD .never with
  | fail => rfl
  | never => rfl
  | ok b0 b1 b2 =>
    rcases hp : pec sa cmd b0 b1 with k | q
    · simp [hp]
    · by_cases hq : q = b2 <;> simp [hp, hq]

/-- ReadTxn with a register address of 32 or more makes no request (R121). -/
theorem readTxn_illegal {a : Byte} (h : 32 ≤ a.toNat) (sa : Byte) (opc : BitVec 3) (c : Ctx) :
    readTxn sa opc a c = (.err .invalidAddress, c) := by
  simp [readTxn, regAddrLegal, h]

/-- ReadTxn with a register address below 32 is one transaction (R124). -/
theorem readTxn_legal {a : Byte} (h : a.toNat < 32) (sa : Byte) (opc : BitVec 3) (c : Ctx) :
    readTxn sa opc a c = transact sa (mapCmd opc a) c := by
  simp [readTxn, regAddrLegal, h]

/-- ReadTxn's effect on the bus port: no request, or exactly one. -/
theorem readTxn_bus (sa : Byte) (opc : BitVec 3) (a : Byte) (c : Ctx) :
    (readTxn sa opc a c).2.bus = c.bus ∨
    (readTxn sa opc a c).2.bus = (c.bus.askXfer sa (mapCmd opc a)).2 := by
  by_cases h : a.toNat < 32
  · exact .inr (by rw [readTxn_legal h, transact_bus])
  · exact .inl (by rw [readTxn_illegal (by omega)])

/-- A good answer is accepted: the word is returned and staged, TXN_CRC holds the PEC (R124). -/
theorem readTxn_good {sa a : Byte} {opc : BitVec 3} {c : Ctx} {v : Half} {rest : List XferAnswer}
    (hsa : sa.toNat < 0x80) (ha : a.toNat < 32)
    (hx : c.bus.xfers = goodAnswer sa (mapCmd opc a) v :: rest) :
    readTxn sa opc a c = (.ok v,
      { bus := c.bus.afterXfer (.xfer sa (mapCmd opc a)) rest
        txnCrc := goodPec sa (mapCmd opc a) (v.extractLsb' 0 8) (v.extractLsb' 8 8)
        staged := c.staged ++ [v] }) := by
  rw [readTxn_legal ha]
  simp [transact, BusPort.askXfer, hx, goodAnswer, pec_of_legal hsa, dataWord_bytes,
    BusPort.afterXfer]

/-! ## Running a command -/

/-- `andThen` in its three cases (R15). -/
theorem andThen_cases {α β : Type} (r : Res α × Ctx) (f : α → Ctx → Res β × Ctx) :
    (∃ v c, r = (.ok v, c) ∧ andThen r f = f v c) ∨
    (∃ k c, r = (.err k, c) ∧ andThen r f = (.err k, c)) ∨
    (∃ q c, r = (.hung q, c) ∧ andThen r f = (.hung q, c)) := by
  obtain ⟨r, c⟩ := r
  cases r with
  | ok v => exact .inl ⟨v, c, rfl, rfl⟩
  | err k => exact .inr (.inl ⟨k, c, rfl, rfl⟩)
  | hung q => exact .inr (.inr ⟨q, c, rfl, rfl⟩)

@[simp] theorem andThen_ok {α β : Type} (v : α) (c : Ctx) (f : α → Ctx → Res β × Ctx) :
    andThen (.ok v, c) f = f v c := rfl

@[simp] theorem andThen_err {α β : Type} (k : ErrKind) (c : Ctx) (f : α → Ctx → Res β × Ctx) :
    andThen (.err k, c) f = (.err k, c) := rfl

@[simp] theorem andThen_hung {α β : Type} (q : BusRequest) (c : Ctx) (f : α → Ctx → Res β × Ctx) :
    andThen (.hung q, c) f = (.hung q, c) := rfl

/-- What running a command can do (R9): it commits, or only ERR and the bus port change, or it
stays pending. -/
theorem runCommand_cases {α : Type} (w : Word) (s : State) (proc : Ctx → Res α × Ctx)
    (commit : α → State → State) :
    (∃ v c, proc (Ctx.start s) = (.ok v, c) ∧
      runCommand w s proc commit =
        .next (commit v { s with bus := c.bus, txnCrc := c.txnCrc }).complete) ∨
    (∃ k c, proc (Ctx.start s) = (.err k, c) ∧
      runCommand w s proc commit = .next ((s.withBus c.bus).raise k)) ∨
    (∃ r c, proc (Ctx.start s) = (.hung r, c) ∧
      runCommand w s proc commit =
        .next ((s.withBus c.bus).hang { word := w, request := r, staged := c.staged })) := by
  unfold runCommand
  rcases proc (Ctx.start s) with ⟨v | k | r, c⟩
  · exact .inl ⟨v, c, rfl, rfl⟩
  · exact .inr (.inl ⟨k, c, rfl, rfl⟩)
  · exact .inr (.inr ⟨r, c, rfl, rfl⟩)

/-- The session check in its two cases (R184 step 3). -/
theorem requireSession_cases (s : State) (body : StepOutcome) :
    (s.verified = true ∧ requireSession s body = body) ∨
    (s.verified = false ∧ requireSession s body = .next (s.raise .sessionState)) := by
  cases h : s.verified <;> simp [requireSession, h]

/-- What a transaction run alone can do (log 10). -/
theorem runTransaction_cases (cmd : Byte) (s : State) :
    (∃ v c, transact s.slaveAddr cmd (Ctx.start s) = (.ok v, c) ∧
      runTransaction cmd s =
        .next { s with bus := c.bus, txnCrc := c.txnCrc, txnResult := some (.word v) }) ∨
    (∃ k c, transact s.slaveAddr cmd (Ctx.start s) = (.err k, c) ∧
      runTransaction cmd s =
        .next { s with bus := c.bus, txnCrc := c.txnCrc, txnResult := some (.error k) }) ∨
    (∃ r c, transact s.slaveAddr cmd (Ctx.start s) = (.hung r, c) ∧
      runTransaction cmd s = .next ((s.withBus c.bus).hang
        { word := cmd.setWidth 32, request := r, staged := c.staged })) := by
  unfold runTransaction
  rcases transact s.slaveAddr cmd (Ctx.start s) with ⟨v | k | r, c⟩
  · exact .inl ⟨v, c, rfl, rfl⟩
  · exact .inr (.inl ⟨k, c, rfl, rfl⟩)
  · exact .inr (.inr ⟨r, c, rfl, rfl⟩)

/-! ## The host port -/

/-- What an access can do (R56, R57). -/
theorem hostAccess_cases (a : HostAccess) (s : State) :
    (a.admitted = false ∧ hostAccess a s = .next (s.respond .busError)) ∨
    (a.admitted = true ∧ a.kind = .read ∧
      hostAccess a s = .next (s.respond (.readData (regRead a.reg s)))) ∨
    (a.admitted = true ∧ a.kind = .write ∧ a.reg = .cmd ∧ hostAccess a s = issue a.value s) ∨
    (a.admitted = true ∧ a.kind = .write ∧ a.reg ≠ .cmd ∧
      hostAccess a s = .next ((regWrite a.reg a.value s).respond .writeDone)) := by
  unfold hostAccess
  cases ha : a.admitted
  · simp
  · cases hk : a.kind
    · simp
    · cases hr : a.reg <;> simp

/-- A register write in its two cases (R26, R57). -/
theorem regWrite_cases (r : HostReg) (v : Word) (s : State) :
    regWrite r v s = s ∨
    (r = .slaveAddr ∧ s.verified = false ∧ regWrite r v s = { s with slaveAddr := v.setWidth 8 }) := by
  cases r <;> simp [regWrite]
  cases s.verified <;> simp

/-- The end of a CMD write (R8, R34). -/
theorem finishWrite_next (w : Word) (t : State) :
    (t.pending = none ∧ finishWrite w (.next t) = .next (t.respond .writeDone)) ∨
    (∃ p, t.pending = some p ∧ finishWrite w (.next t) = .next (t.hang { p with word := w })) := by
  cases h : t.pending <;> simp [finishWrite, h]

end Sys2Proof.Machine
end

