-- ==== Sys2Proof/Laws/Exec.lean ====
section
/-! SUPPORT. The inversion of `exec`: everything an instruction that answers a next state can have
done, said once. -/

namespace Sys2Proof.Machine

/-- The instructions that make a bus request. -/
def usesBus : Instr → Bool
  | .sessionInit => true
  | .refresh => true
  | .readConfig => true
  | .read _ _ => true
  | .readRam _ => true
  | .readEeprom _ => true
  | .readReservedOpc _ _ => true
  | .smbusRamRead _ => true
  | .smbusEepromRead _ => true
  | _ => false

/-- The READ instructions that can return a word: those whose OPC is defined (R134). -/
def readsWord : Instr → Bool
  | .read opc _ => opcDefined opc
  | .readRam _ => true
  | .readEeprom _ => true
  | .readReservedOpc opc _ => opcDefined opc
  | _ => false

/-- The states an instruction can leave, from `s`. -/
inductive Effect (s : State) : Instr → State → Prop
  | nop : Effect s .nop s.complete
  | crcReset : Effect s .crcReset { s with crcAcc := crcInit }.complete
  | crcPutByte (b : Byte) : Effect s (.crcPutByte b) { s with crcAcc := crcStep s.crcAcc b }.complete
  | crcPutSa (a : Byte) (rw : Bool) (c : Byte) (h : crcPutSA s.crcAcc a rw = .ok c) :
      Effect s (.crcPutSa a rw) { s with crcAcc := c }.complete
  | sessionClose : Effect s .sessionClose
      { s with
        verified := false, tempValid := false
        tempTa := Config.sentinel, tempTobj1 := Config.sentinel
        tempTobj2 := Config.sentinel }.complete
  | error {i : Instr} (k : ErrKind) (bus : BusPort) (hf : i.format = .hostCmd) (hn : i ≠ .nop)
      (hc : i ≠ .sessionClose) (hb : usesBus i = false → bus = s.bus) :
      Effect s i ((s.withBus bus).raise k)
  | pending {i : Instr} (p : Pending) (bus : BusPort) (hb : usesBus i = true) :
      Effect s i ((s.withBus bus).hang p)
  | sessionInit (d : Diagnostics) (bus : BusPort) (crc : Byte) (hv : s.verified = false)
      (ha : s.slaveAddr.toNat < 0x80) :
      Effect s .sessionInit (commitSessionInit d { s with bus := bus, txnCrc := crc }).complete
  | refresh (r : RawTriple) (bus : BusPort) (crc : Byte) (hv : s.verified = true) :
      Effect s .refresh (commitRefresh r { s with bus := bus, txnCrc := crc }).complete
  | readConfig (v : Half) (bus : BusPort) (crc : Byte) (hv : s.verified = true) :
      Effect s .readConfig (commitReadConfig v { s with bus := bus, txnCrc := crc }).complete
  | read {i : Instr} (v : Half) (bus : BusPort) (crc : Byte) (hv : s.verified = true)
      (hr : readsWord i = true) :
      Effect s i (commitRead v { s with bus := bus, txnCrc := crc }).complete
  | transaction {i : Instr} (r : TxnResult) (bus : BusPort) (crc : Byte)
      (hf : i.format = .smbusCmd) :
      Effect s i { s with bus := bus, txnCrc := crc, txnResult := some r }

/-- `andThen` returns a value only if both procedures do. -/
theorem andThen_eq_ok {α β : Type} {r : Res α × Ctx} {f : α → Ctx → Res β × Ctx} {v : β} {c : Ctx}
    (h : andThen r f = (.ok v, c)) : ∃ u d, r = (.ok u, d) ∧ f u d = (.ok v, c) := by
  rcases andThen_cases r f with ⟨u, d, h1, h2⟩ | ⟨k, d, -, h2⟩ | ⟨q, d, -, h2⟩
  · exact ⟨u, d, h1, h2 ▸ h⟩
  · rw [h2] at h; cases h
  · rw [h2] at h; cases h

/-- ReadTxn returns data only for a 7-bit slave address (R126). -/
theorem readTxn_ok_slaveAddr {sa : Byte} {opc : BitVec 3} {a : Byte} {c c' : Ctx} {v : Half}
    (h : readTxn sa opc a c = (.ok v, c')) : sa.toNat < 0x80 := by
  by_contra hs
  by_cases ha : a.toNat < 32
  · rw [readTxn_legal ha] at h
    rcases transact_illegal_cases (by omega : 0x80 ≤ sa.toNat) (mapCmd opc a) c with
      ⟨-, ht⟩ | ⟨-, ht⟩ | ⟨_, _, _, -, ht⟩ <;> rw [ht] at h <;> cases h
  · rw [readTxn_illegal (by omega)] at h; cases h

/-- What a command run over the bus can leave, given what it leaves when it commits. -/
theorem runCommand_effect {α : Type} {w : Word} {s t : State} {i : Instr}
    {proc : Ctx → Res α × Ctx} {commit : α → State → State}
    (hf : i.format = .hostCmd) (hb : usesBus i = true)
    (hok : ∀ v c, proc (Ctx.start s) = (.ok v, c) →
      Effect s i (commit v { s with bus := c.bus, txnCrc := c.txnCrc }).complete)
    (h : runCommand w s proc commit = .next t) : Effect s i t := by
  have hn : i ≠ .nop := by rintro rfl; cases hb
  have hc : i ≠ .sessionClose := by rintro rfl; cases hb
  rcases runCommand_cases w s proc commit with ⟨v, c, hp, hr⟩ | ⟨k, c, -, hr⟩ | ⟨r, c, -, hr⟩ <;>
    rw [hr] at h <;> cases h
  · exact hok v c hp
  · exact .error k c.bus hf hn hc (by simp [hb])
  · exact .pending _ c.bus hb

/-- An error raised before any request. -/
theorem raise_effect {s : State} {i : Instr} (k : ErrKind) (hf : i.format = .hostCmd)
    (hn : i ≠ .nop) (hc : i ≠ .sessionClose) : Effect s i (s.raise k) :=
  .error k s.bus hf hn hc fun _ => rfl

/-- What a command that needs a session can leave. -/
theorem requireSession_effect {s t : State} {i : Instr} {body : StepOutcome}
    (hf : i.format = .hostCmd) (hn : i ≠ .nop) (hc : i ≠ .sessionClose)
    (hbody : s.verified = true → body = .next t → Effect s i t)
    (h : requireSession s body = .next t) : Effect s i t := by
  rcases requireSession_cases s body with ⟨hv, he⟩ | ⟨-, he⟩ <;> rw [he] at h
  · exact hbody hv h
  · cases h; exact raise_effect _ hf hn hc

/-- What READ can leave after its session check. -/
theorem readCommand_effect {w : Word} {s t : State} {i : Instr} {opc : BitVec 3} {a : Byte}
    (hf : i.format = .hostCmd) (hb : usesBus i = true) (hr : readsWord i = opcDefined opc)
    (hv : s.verified = true) (h : readCommand w opc a s = .next t) : Effect s i t := by
  unfold readCommand at h
  split at h
  · next ho => exact runCommand_effect hf hb (fun v c _ => .read v c.bus c.txnCrc hv (hr.trans ho)) h
  · cases h
    exact raise_effect _ hf (by rintro rfl; cases hb) (by rintro rfl; cases hb)

/-- What a sensor command run alone can leave. -/
theorem runTransaction_effect {cmd : Byte} {s t : State} {i : Instr} (hf : i.format = .smbusCmd)
    (hb : usesBus i = true) (h : runTransaction cmd s = .next t) : Effect s i t := by
  rcases runTransaction_cases cmd s with ⟨v, c, -, hr⟩ | ⟨k, c, -, hr⟩ | ⟨r, c, -, hr⟩ <;>
    rw [hr] at h <;> cases h
  · exact .transaction _ c.bus c.txnCrc hf
  · exact .transaction _ c.bus c.txnCrc hf
  · exact .pending _ c.bus hb

/-- SESSION_INIT commits only for a 7-bit slave address (R126, R156). -/
theorem sessionInitProc_ok_slaveAddr {mode : AddrCheckMode} {sa : Byte} {c c' : Ctx}
    {d : Diagnostics} (h : sessionInitProc mode sa c = (.ok d, c')) : sa.toNat < 0x80 := by
  obtain ⟨_, _, -, h⟩ := andThen_eq_ok h
  obtain ⟨_, _, hr, -⟩ := andThen_eq_ok h
  exact readTxn_ok_slaveAddr hr

/-- Everything `exec` can do. -/
theorem exec_effect {i : Instr} {s t : State} (h : exec i s = .next t) : Effect s i t := by
  cases i with
  | nop => cases h; exact .nop
  | crcReset => cases h; exact .crcReset
  | crcPutByte b => cases h; exact .crcPutByte b
  | crcPutSa a rw =>
    simp only [exec, execCrcPutSa] at h
    split at h <;> cases h
    · exact raise_effect _ rfl (by simp) (by simp)
    · next c hc => exact .crcPutSa a rw c hc
  | read opc a =>
    exact requireSession_effect rfl (by simp) (by simp) (readCommand_effect rfl rfl rfl) h
  | readConfig =>
    exact requireSession_effect rfl (by simp) (by simp)
      (fun hv => runCommand_effect rfl rfl fun v c _ => .readConfig v c.bus c.txnCrc hv) h
  | readFlags => cases h; exact raise_effect _ rfl (by simp) (by simp)
  | writeEeprom a => cases h; exact raise_effect _ rfl (by simp) (by simp)
  | sessionInit =>
    simp only [exec, execSessionInit] at h
    split at h
    · cases h; exact raise_effect _ rfl (by simp) (by simp)
    · next hv =>
      exact runCommand_effect rfl rfl (fun v c hp => .sessionInit v c.bus c.txnCrc
        (by simpa using hv) (sessionInitProc_ok_slaveAddr hp)) h
  | refresh =>
    exact requireSession_effect rfl (by simp) (by simp)
      (fun hv => runCommand_effect rfl rfl fun v c _ => .refresh v c.bus c.txnCrc hv) h
  | sessionClose => cases h; exact .sessionClose
  | reservedB => cases h; exact raise_effect _ rfl (by simp) (by simp)
  | reservedC => cases h; exact raise_effect _ rfl (by simp) (by simp)
  | reservedD => cases h; exact raise_effect _ rfl (by simp) (by simp)
  | reservedE => cases h; exact raise_effect _ rfl (by simp) (by simp)
  | reservedF => cases h; exact raise_effect _ rfl (by simp) (by simp)
  | readRam a =>
    exact requireSession_effect rfl (by simp) (by simp)
      (fun hv => runCommand_effect rfl rfl fun v c _ => .read v c.bus c.txnCrc hv rfl) h
  | readEeprom a =>
    exact requireSession_effect rfl (by simp) (by simp)
      (fun hv => runCommand_effect rfl rfl fun v c _ => .read v c.bus c.txnCrc hv rfl) h
  | readReservedOpc opc a =>
    exact requireSession_effect rfl (by simp) (by simp) (readCommand_effect rfl rfl rfl) h
  | smbusRamRead address => exact runTransaction_effect rfl rfl h
  | smbusEepromRead address => exact runTransaction_effect rfl rfl h

end Sys2Proof.Machine
end

