-- ==== Sys2Proof/Laws/PerInstr.lean ====
section
/-! SUPPORT. Families stated per instruction, one lemma per constructor of Instr. -/

namespace Sys2Proof.Laws

/-- Every instruction occupies as many bytes as its format has: four of a command word (R79), one
of a sensor command byte (R80). -/
def EncodingLength.Statement (i : Instr) : Prop :=
  (encode i).length = match i.format with
    | .hostCmd => 4
    | .smbusCmd => 1

theorem EncodingLength.nop : EncodingLength.Statement .nop := rfl
theorem EncodingLength.crcReset : EncodingLength.Statement .crcReset := rfl
theorem EncodingLength.crcPutByte (b : BitVec 8) : EncodingLength.Statement (.crcPutByte b) := rfl
theorem EncodingLength.crcPutSa (a : BitVec 8) (rw : Bool) : EncodingLength.Statement (.crcPutSa a rw) := rfl
theorem EncodingLength.read (opc : BitVec 3) (a : BitVec 8) : EncodingLength.Statement (.read opc a) := rfl
theorem EncodingLength.readConfig : EncodingLength.Statement .readConfig := rfl
theorem EncodingLength.readFlags : EncodingLength.Statement .readFlags := rfl
theorem EncodingLength.writeEeprom (a : BitVec 8) : EncodingLength.Statement (.writeEeprom a) := rfl
theorem EncodingLength.sessionInit : EncodingLength.Statement .sessionInit := rfl
theorem EncodingLength.refresh : EncodingLength.Statement .refresh := rfl
theorem EncodingLength.sessionClose : EncodingLength.Statement .sessionClose := rfl
theorem EncodingLength.reservedB : EncodingLength.Statement .reservedB := rfl
theorem EncodingLength.reservedC : EncodingLength.Statement .reservedC := rfl
theorem EncodingLength.reservedD : EncodingLength.Statement .reservedD := rfl
theorem EncodingLength.reservedE : EncodingLength.Statement .reservedE := rfl
theorem EncodingLength.reservedF : EncodingLength.Statement .reservedF := rfl
theorem EncodingLength.readRam (a : BitVec 8) : EncodingLength.Statement (.readRam a) := rfl
theorem EncodingLength.readEeprom (a : BitVec 8) : EncodingLength.Statement (.readEeprom a) := rfl
theorem EncodingLength.readReservedOpc (opc : BitVec 3) (a : BitVec 8) : EncodingLength.Statement (.readReservedOpc opc a) := rfl
theorem EncodingLength.smbusRamRead (address : BitVec 5) : EncodingLength.Statement (.smbusRamRead address) := rfl
theorem EncodingLength.smbusEepromRead (address : BitVec 5) : EncodingLength.Statement (.smbusEepromRead address) := rfl

end Sys2Proof.Laws
end

