-- ==== Sys2Proof/Laws/Step.lean ====
section
/-! SUPPORT. What one step can do: one lemma per kind of input, and the inversion of a step. -/

namespace Sys2Proof.Machine

/-- With no input the block waits (R216). -/
theorem step_idle {s : State} (hi : s.inputs = []) : step s = .next s := by
  rw [step, hi]

/-- A block reset input acts in every state (R211). -/
theorem step_blockReset {s : State} {rest : List Input} (hi : s.inputs = .blockReset :: rest) :
    step s = .next (s.withInputs rest).blockReset := by
  rw [step, hi]

/-- A host access takes effect when no command is pending (R8). -/
theorem step_access {s : State} {a : HostAccess} {rest : List Input} (hp : s.pending = none)
    (hi : s.inputs = .access a :: rest) : step s = hostAccess a (s.withInputs rest) := by
  rw [step, hi]; simp only [hp]; rfl

/-- A sequencer start takes effect when no command is pending (log 10). -/
theorem step_sequence {s : State} {c : Byte} {rest : List Input} (hp : s.pending = none)
    (hi : s.inputs = .sequence c :: rest) : step s = startSequence c (s.withInputs rest) := by
  rw [step, hi]; simp only [hp]; rfl

/-- A pending command stalls every input but block reset (R8, R220). -/
theorem step_stalled {s : State} {p : Pending} (hp : s.pending = some p)
    (hi : ∀ rest, s.inputs ≠ .blockReset :: rest) : step s = .next s := by
  rw [step]
  split
  · rfl
  · next rest h => exact absurd h (hi rest)
  · simp only [hp, Option.isSome_some, if_true]
  · simp only [hp, Option.isSome_some, if_true]

/-- Everything a step can do. -/
theorem step_cases (s : State) :
    step s = .next s ∨
    (∃ rest, s.inputs = .blockReset :: rest ∧ step s = .next (s.withInputs rest).blockReset) ∨
    (∃ a rest, s.pending = none ∧ s.inputs = .access a :: rest ∧
      step s = hostAccess a (s.withInputs rest)) ∨
    (∃ c rest, s.pending = none ∧ s.inputs = .sequence c :: rest ∧
      step s = startSequence c (s.withInputs rest)) := by
  rcases hi : s.inputs with _ | ⟨a | c | _, rest⟩
  · exact .inl (step_idle hi)
  · cases hp : s.pending with
    | none => exact .inr (.inr (.inl ⟨a, rest, rfl, rfl, step_access hp hi⟩))
    | some p => exact .inl (step_stalled hp (by simp [hi]))
  · cases hp : s.pending with
    | none => exact .inr (.inr (.inr ⟨c, rest, rfl, rfl, step_sequence hp hi⟩))
    | some p => exact .inl (step_stalled hp (by simp [hi]))
  · exact .inr (.inl ⟨rest, rfl, step_blockReset hi⟩)

/-- Every register's own access is admitted and names it (R22, R56). -/
theorem load_admitted (r : HostReg) : (HostAccess.load r).admitted = true := by
  cases r <;> decide

@[simp] theorem load_reg (r : HostReg) : (HostAccess.load r).reg = r := by
  cases r <;> rfl

theorem store_admitted (r : HostReg) (v : Word) : (HostAccess.store r v).admitted = true :=
  load_admitted r

@[simp] theorem store_reg (r : HostReg) (v : Word) : (HostAccess.store r v).reg = r :=
  load_reg r

/-- A load answers with the register's value (R57). -/
theorem hostAccess_load (r : HostReg) (s : State) :
    hostAccess (HostAccess.load r) s = .next (s.respond (.readData (regRead r s))) := by
  rw [hostAccess, if_pos (load_admitted r), load_reg]; rfl

/-- A store to CMD issues the command (R23). -/
theorem hostAccess_store_cmd (w : Word) (s : State) :
    hostAccess (HostAccess.store .cmd w) s = issue w s := by
  rw [hostAccess, if_pos (store_admitted .cmd w), store_reg]; rfl

/-- A store to any other register is a register write (R57). -/
theorem hostAccess_store {r : HostReg} (hr : r ≠ .cmd) (v : Word) (s : State) :
    hostAccess (HostAccess.store r v) s = .next ((regWrite r v s).respond .writeDone) := by
  rw [hostAccess, if_pos (store_admitted r v), store_reg]
  cases r <;> first | exact absurd rfl hr | rfl

/-- What issuing a command can do, given what the command does (R8, R34). -/
theorem issue_next {w : Word} {s t : State} (h : exec (decodeWord w) s = .next t) :
    (t.pending = none ∧ issue w s = .next (t.respond .writeDone)) ∨
    (∃ p, t.pending = some p ∧ issue w s = .next (t.hang { p with word := w })) := by
  rw [issue, h]; exact finishWrite_next w t

/-- The byte order of the host port loses nothing (R55). -/
theorem bytesWord_wordBytes (w : Word) :
    bytesWord (wordByte w 0) (wordByte w 1) (wordByte w 2) (wordByte w 3) = w := by
  apply BitVec.eq_of_getLsbD_eq
  intro i hi
  simp only [bytesWord, wordByte, BitVec.getLsbD_append, BitVec.getLsbD_extractLsb']
  by_cases h0 : i < 8
  · simp [h0]
  · by_cases h1 : i < 16
    · have : i - 8 < 8 := by omega
      have e : 8 + (i - 8) = i := by omega
      simp [h0, this, e]
    · by_cases h2 : i < 24
      · have a1 : ¬ i - 8 < 8 := by omega
        have a2 : i - 8 - 8 < 8 := by omega
        have e : 16 + (i - 8 - 8) = i := by omega
        simp [h0, a1, a2, e]
      · have a1 : ¬ i - 8 < 8 := by omega
        have a2 : ¬ i - 8 - 8 < 8 := by omega
        have a3 : i - 8 - 8 - 8 < 8 := by omega
        have e : 24 + (i - 8 - 8 - 8) = i := by omega
        simp [h0, a1, a2, a3, e]

/-- The decoder on the four bytes of a word is the decoder on the word. -/
theorem decodeBytes_wordBytes (w : Word) : decodeBytes (wordBytes w) = .ok (decodeWord w) := by
  simp only [wordBytes, decodeBytes, bytesWord_wordBytes]

end Sys2Proof.Machine
end

