-- ==== Sys2Proof/Tests/Slice0.lean ====
section
/-! SUPPORT. Tests: well-formedness, decoding of words written out from the spec's encodings, one
step of each instruction on values of 95_test_vectors.md, and a witness for the hypotheses of every
statement that has some. -/

set_option maxRecDepth 20000

namespace Sys2Proof.Tests

open Sys2Proof.Machine

/-! ## Helper states -/

/-- A live session with the sensor at 0x5A, the start state of V5, and the given bus answers. -/
def live (answers : List XferAnswer) : State :=
  { State.reset with
    verified := true, slaveAddr := 0x5A, rdata := 0x1234
    bus := { binds := [], xfers := answers, log := [] } }

/-- No session, SLAVE_ADDR set, the start state of V7, and the given bus answers. -/
def fresh (sa : Byte) (binds : List BindAnswer) (answers : List XferAnswer) : State :=
  { State.reset with slaveAddr := sa, bus := { binds := binds, xfers := answers, log := [] } }

/-- A state with the given inputs to come. -/
def withQueue (s : State) (inputs : List Input) : State := { s with inputs := inputs }

/-- A field of the next state, if there is one. -/
def after {α : Type} (o : StepOutcome) (f : State → α) : Option α :=
  match o with
  | .next t => some (f t)
  | _ => none

/-- The good answers G of V7 after the bind, as the spec writes them. -/
def answersG : List XferAnswer :=
  [.ok 0x5A 0xBE 0xD3, .ok 0x11 0x22 0x89, .ok 0x33 0x44 0x2E, .ok 0x55 0x66 0x71,
    .ok 0x77 0x88 0x67, .ok 0xFF 0xFF 0xD6, .ok 0xF4 0x9F 0x70]

/-- The answers of P2 step 4. -/
def answersT : List XferAnswer := [.ok 0x59 0x35 0x2A, .ok 0xD3 0x3A 0x25, .ok 0x5A 0x35 0xD1]

/-- A state with a REFRESH pending on its second read. -/
def stuck : State :=
  { live [] with
    pending := some { word := 0x9, request := .xfer 0x5A 0x07, staged := [0x3559] }
    bus := { binds := [], xfers := [], log := [.xfer 0x5A 0x06, .xfer 0x5A 0x07] } }

/-! ## Well-formedness -/

/-- READ_RESERVED_OPC with OPC 000 is no row of the table (R77). -/
theorem test_wellFormed_refuses_reserved_opc_ram :
    (Instr.readReservedOpc 0b000 0x07).wellFormed = false := by decide

/-- READ_RESERVED_OPC with OPC 001 is no row of the table (R77). -/
theorem test_wellFormed_refuses_reserved_opc_eeprom :
    (Instr.readReservedOpc 0b001 0x07).wellFormed = false := by decide

theorem test_wellFormed_admits :
    (Instr.readReservedOpc 0b010 0x07).wellFormed = true ∧
    (Instr.readReservedOpc 0b111 0xFF).wellFormed = true ∧
    (Instr.read 0b111 0xFF).wellFormed = true := by decide

/-! ## Decoding: words written out from R70, R71, R80, R95 and R96 -/

theorem test_decode_crc_family :
    decodeWord 0x00000001 = .crcReset ∧
    decodeWord 0x00003102 = .crcPutByte 0x31 ∧
    decodeWord 0x00005A03 = .crcPutSa 0x5A false ∧
    decodeWord 0x00085A03 = .crcPutSa 0x5A true ∧
    decodeWord 0xFFF05AF3 = .crcPutSa 0x5A false := by decide

theorem test_decode_read_family :
    decodeWord 0x00000704 = .read 0b000 0x07 ∧
    decodeWord 0x00010E04 = .read 0b001 0x0E ∧
    decodeWord 0x00074004 = .read 0b111 0x40 ∧
    decodeWord 0x00000005 = .readConfig ∧
    decodeWord 0x00000006 = .readFlags ∧
    decodeWord 0x00000E07 = .writeEeprom 0x0E := by decide

theorem test_decode_session_family :
    decodeWord 0xFFFFFFF0 = .nop ∧
    decodeWord 0x00000008 = .sessionInit ∧
    decodeWord 0x00000009 = .refresh ∧
    decodeWord 0x0000000A = .sessionClose := by decide

theorem test_decode_reserved_codes :
    decodeWord 0x0000000B = .reservedB ∧ decodeWord 0x0000000C = .reservedC ∧
    decodeWord 0x0000000D = .reservedD ∧ decodeWord 0x0000000E = .reservedE ∧
    decodeWord 0x0000000F = .reservedF := by decide

/-- READ's words have one reading; the three pseudo rows' words are READ's (R78, R96). -/
theorem test_decode_pseudo_rows :
    decodeBytes (encode (.readRam 0x07)) = .ok (.read 0b000 0x07) ∧
    decodeBytes (encode (.readEeprom 0x0E)) = .ok (.read 0b001 0x0E) ∧
    decodeBytes (encode (.readReservedOpc 0b010 0x07)) = .ok (.read 0b010 0x07) := by decide

/-- The bytes of a command word, lowest address first (R55). -/
theorem test_decode_bytes_in_order :
    decodeBytes [0x04, 0x0E, 0x01, 0x00] = .ok (.read 0b001 0x0E) := by decide

theorem test_decode_sensor_bytes :
    decodeBytes [0x07] = .ok (.smbusRamRead 0x07) ∧
    decodeBytes [0x2E] = .ok (.smbusEepromRead 0x0E) ∧
    decodeBytes [0x3F] = .ok (.smbusEepromRead 0x1F) ∧
    decodeBytes [0x40] = .error (.sensorOpcode 0x40) ∧
    decodeBytes [0x07, 0x07] = .error (.noFormatOfLength 2) := by decide

theorem test_decodeTableWord :
    decodeTableWord 8 0x8 = some .sessionInit ∧
    decodeTableWord 24 0x010E04 = some (.read 0b001 0x0E) ∧
    decodeTableWord 8 0x2E = some (.smbusEepromRead 0x0E) ∧
    decodeTableWord 8 0xE0 = none := by decide

/-- The encoder gives the worked encodings of R96. -/
theorem test_encode_worked :
    encodeWord (.crcPutByte 0x31) = 0x00003102 ∧ encodeWord (.crcPutSa 0x5A true) = 0x00085A03 ∧
    encodeWord (.readRam 0x07) = 0x00000704 ∧ encodeWord (.readEeprom 0x0E) = 0x00010E04 := by
  decide

/-! ## The CRC unit (V2, V4) -/

theorem test_crcStep_trace : crcStep 0x00 0xB4 = 0x05 ∧ crcStep 0x05 0x07 = 0x0E := by decide

theorem test_crcFeed_check_string :
    crcFeed 0x00 [0x31, 0x32, 0x33, 0x34, 0x35, 0x36, 0x37, 0x38, 0x39] = 0xF4 := by decide

theorem test_pec_rows :
    pec 0x5A 0x07 0x59 0x3A = .ok 0x11 ∧ pec 0x7F 0x3F 0xFF 0xFF = .ok 0x2F ∧
    pec 0x80 0x07 0x59 0x3A = .error .invalidAddress := by decide

/-! ## One step of each instruction (V3, V5, V7, V8) -/

theorem test_nop : after (exec .nop { live [] with err := 5 }) State.err = some 0 := by decide

theorem test_crcReset :
    after (exec .crcReset { live [] with crcAcc := 0x5D }) (fun t => (t.crcAcc, t.err)) =
      some (0x00, 0) := by decide

theorem test_crcPutByte :
    after (exec (.crcPutByte 0x31) (live [])) (fun t => (t.crcAcc, t.err)) = some (0x97, 0) := by
  decide

theorem test_crcPutByte_equal_to_accumulator :
    after (exec (.crcPutByte 0x97) { live [] with crcAcc := 0x97 }) State.crcAcc = some 0x00 := by
  decide

theorem test_crcPutSa_read_mode :
    after (exec (.crcPutSa 0x7F true) (live [])) (fun t => (t.crcAcc, t.err)) = some (0xF3, 0) := by
  decide

theorem test_crcPutSa_rejects :
    after (exec (.crcPutSa 0x80 false) { live [] with crcAcc := 0x3C })
      (fun t => (t.crcAcc, t.err)) = some (0x3C, 1) := by decide

theorem test_read_corrupted :
    after (exec (.read 0b000 0x07) (live [.ok 0x59 0x3A 0x12]))
      (fun t => (t.err, t.rdata, t.bus.log)) = some (3, 0x1234, [.xfer 0x5A 0x07]) := by decide

/-- A reserved OPC beats the address check (V5). -/
theorem test_read_reserved_opc_first :
    after (exec (.read 0b111 0x40) (live [])) (fun t => (t.err, t.bus.log)) = some (6, []) := by
  decide

theorem test_readRam :
    after (exec (.readRam 0x1F) (live [.ok 0x34 0x12 0x02])) (fun t => (t.err, t.rdata, t.bus.log)) =
      some (0, 0x1234, [.xfer 0x5A 0x1F]) := by decide

theorem test_readRam_address_32 :
    after (exec (.readRam 0x20) (live [])) (fun t => (t.err, t.bus.log)) = some (1, []) := by decide

theorem test_readEeprom :
    after (exec (.readEeprom 0x0E) (live [.ok 0x5A 0xBE 0xD3]))
      (fun t => (t.err, t.rdata, t.bus.log)) = some (0, 0xBE5A, [.xfer 0x5A 0x2E]) := by decide

/-- READ_EEPROM of the config word does not write CONFIG (V5). -/
theorem test_readEeprom_leaves_config :
    after (exec (.readEeprom 0x05) (live [.ok 0xF4 0x9F 0x70])) (fun t => (t.rdata, t.config)) =
      some (0x9FF4, 0x0000) := by decide

theorem test_readReservedOpc :
    after (exec (.readReservedOpc 0b010 0x07) (fresh 0x5A [] [])) State.err = some 7 ∧
    after (exec (.readReservedOpc 0b010 0x07) (live [])) State.err = some 6 := by decide

theorem test_readConfig :
    after (exec .readConfig (live [.ok 0xF4 0x9F 0x70])) (fun t => (t.config, t.rdata, t.err)) =
      some (0x9FF4, 0x9FF4, 0) := by decide

theorem test_readConfig_fail :
    after (exec .readConfig (live [.fail])) (fun t => (t.config, t.rdata, t.err)) =
      some (0x0000, 0x1234, 2) := by decide

theorem test_readFlags : after (exec .readFlags (fresh 0x5A [] [])) State.err = some 5 := by decide

theorem test_writeEeprom :
    after (exec (.writeEeprom 0xFF) (live [])) (fun t => (t.err, t.bus.log)) = some (5, []) := by
  decide

/-- The first row of V7. -/
theorem test_sessionInit :
    after (exec .sessionInit (fresh 0x5A [.ok] answersG))
      (fun t => (t.err, t.verified, t.storedAddr, t.chipId3, t.emissivity, t.config)) =
      some (0, true, 0xBE5A, 0x8877, 0xFFFF, 0x9FF4) := by decide

/-- The third row of V7: the same answers, the full word compared. -/
theorem test_sessionInit_full_word :
    after (exec .sessionInit { fresh 0x5A [.ok] answersG with addrCheckMode := .fullWord })
      (fun t => (t.err, t.verified, t.storedAddr, t.bus.log)) =
      some (4, false, 0x0000, [.bind 0x5A, .xfer 0x5A 0x2E]) := by decide

/-- The first row of V8. -/
theorem test_refresh :
    after (exec .refresh (live answersT)) (fun t => (t.tempTa, t.tempTobj1, t.tempTobj2)) =
      some (0xFFFFFFFF, 0x00000AF3, 0x00000001) := by decide

/-- The third step of P3: the third read fails, the first triple survives. -/
theorem test_refresh_keeps_the_old_triple :
    after (exec .refresh
      { live [.ok 0x5A 0x35 0x15, .ok 0x59 0x3A 0x11, .ok 0x59 0x3A 0x00] with
        tempValid := true, tempTa := 0xFFFFFFFF })
      (fun t => (t.err, t.tempValid, t.tempTa)) = some (3, true, 0xFFFFFFFF) := by decide

theorem test_sessionClose :
    after (exec .sessionClose { live [] with tempValid := true, tempTa := 0xAF3, crcAcc := 0x11 })
      (fun t => (t.verified, t.tempValid, t.tempTa, t.crcAcc, t.slaveAddr)) =
      some (false, false, 0x80000000, 0x11, 0x5A) := by decide

theorem test_reserved :
    (after (exec .reservedB (live [])) State.err = some 6 ∧
      after (exec .reservedC (live [])) State.err = some 6) ∧
    after (exec .reservedD (live [])) State.err = some 6 ∧
    after (exec .reservedE (live [])) State.err = some 6 ∧
    after (exec .reservedF (live [])) State.err = some 6 := by decide

theorem test_smbusRamRead :
    after (exec (.smbusRamRead 0x07) (live [.ok 0x59 0x3A 0x11]))
      (fun t => (t.txnResult, t.rdata, t.bus.log)) =
      some (some (.word 0x3A59), 0x1234, [.xfer 0x5A 0x07]) := by decide

theorem test_smbusEepromRead :
    after (exec (.smbusEepromRead 0x0E) (live [.ok 0x5A 0xBE 0xD4]))
      (fun t => (t.txnResult, t.bus.log)) =
      some (some (.error .crcMismatch), [.xfer 0x5A 0x2E]) := by decide

/-- The converter's rows of V6. -/
theorem test_convTemp :
    convTemp 0x0000 = 0xFFFF954D ∧ convTemp 0x3559 = 0xFFFFFFFF ∧ convTemp 0x8000 = 0x0000954D ∧
    convTemp 0xFFFF = 0x0001954B := by decide

/-! ## The host port (V9, V10) -/

theorem test_step_store_slave_addr :
    after (step (withQueue State.reset [.access (HostAccess.store .slaveAddr 0x0000015A)]))
      State.slaveAddr = some 0x5A := by decide

theorem test_step_store_slave_addr_in_session :
    after (step (withQueue (live []) [.access (HostAccess.store .slaveAddr 0x33)]))
      State.slaveAddr = some 0x5A := by decide

theorem test_step_misaligned_write_issues_nothing :
    after (step (withQueue (live [])
      [.access { kind := .write, off := 2, width := 4, value := 0x6 }]))
      (fun t => (t.err, t.hostOut)) = some (0, [.busError]) := by decide

theorem test_step_issues_a_command :
    after (step (withQueue (live []) [.access (HostAccess.store .cmd 0x00000006)]))
      (fun t => (t.err, t.hostOut)) = some (5, [.writeDone]) := by decide

/-- A block reset drops a pending command (R211). -/
theorem test_step_blockReset_drops_pending :
    after (step (withQueue stuck [.blockReset])) (fun t => (t.pending, t.err, t.tempValid)) =
      some (none, 0, false) := by decide

theorem test_withFetchWord_runs_the_word :
    after (step (State.reset.withFetchWord 24 0x003102)) State.crcAcc = some 0x97 ∧
    after (step (State.reset.withFetchWord 8 0x2E)) (fun t => t.bus.log) =
      some [.xfer 0x00 0x2E] := by decide

/-- CRC_PEC is the six command words of R96. -/
theorem test_assemble_crc_pec :
    (assemble (.crcPec 0x5A 0x07 0x59 0x3A)).map (List.map HostAccess.value) =
      some [0x00000001, 0x00005A03, 0x00000702, 0x00085A03, 0x00005902, 0x00003A02] ∧
    assemble (.crcPutByte 0x100) = none := by decide

/-! ## Witnesses: the hypotheses of each statement hold together somewhere -/

/-- The issued command of StepRunsTheIssuedCommand, completing and staying pending. -/
theorem witness_StepRunsTheIssuedCommand :
    (let s := withQueue (live []) [.access (HostAccess.store .cmd 0x00003102)]
     s.pending = none ∧ s.inputs = .access (HostAccess.store .cmd 0x00003102) :: [] ∧
     decodeBytes (wordBytes 0x00003102) = .ok (.crcPutByte 0x31) ∧
     (Instr.crcPutByte 0x31).wellFormed = true) ∧
    (let s := withQueue (live []) [.access (HostAccess.store .cmd 0x00000009)]
     s.pending = none ∧ s.inputs = .access (HostAccess.store .cmd 0x00000009) :: [] ∧
     decodeBytes (wordBytes 0x00000009) = .ok .refresh ∧ Instr.refresh.wellFormed = true) := by
  decide

theorem witness_StepRunsTheSensorCommand :
    let s := withQueue (live []) [.sequence 0x3F]
    s.pending = none ∧ s.inputs = .sequence 0x3F :: [] ∧
    decodeBytes [0x3F] = .ok (.smbusEepromRead 0x1F) ∧
    (Instr.smbusEepromRead 0x1F).wellFormed = true := by decide

theorem witness_DecodeEncodeAgree :
    (Instr.readReservedOpc 0b010 0x00).wellFormed = true ∧
    (Instr.smbusEepromRead 0x1F).wellFormed = true := by decide

/-- Two words that differ in unused bits only, for READ and for CRC_PUT_SA. -/
theorem witness_UnusedBitsAreIgnored :
    (let w : Word := 0xFFF807F4; let w' : Word := 0x00000704
     w.extractLsb' 0 4 = w'.extractLsb' 0 4 ∧
     (w.extractLsb' 0 4 = 2#4 ∨ w.extractLsb' 0 4 = 3#4 ∨ w.extractLsb' 0 4 = 4#4 →
       w.extractLsb' 8 8 = w'.extractLsb' 8 8) ∧
     (w.extractLsb' 0 4 = 4#4 → w.extractLsb' 16 3 = w'.extractLsb' 16 3) ∧
     (w.extractLsb' 0 4 = 3#4 → w.getLsbD 19 = w'.getLsbD 19)) ∧
    (let w : Word := 0xFFFF5AF3; let w' : Word := 0x00085A03
     w.extractLsb' 0 4 = w'.extractLsb' 0 4 ∧
     (w.extractLsb' 0 4 = 2#4 ∨ w.extractLsb' 0 4 = 3#4 ∨ w.extractLsb' 0 4 = 4#4 →
       w.extractLsb' 8 8 = w'.extractLsb' 8 8) ∧
     (w.extractLsb' 0 4 = 4#4 → w.extractLsb' 16 3 = w'.extractLsb' 16 3) ∧
     (w.extractLsb' 0 4 = 3#4 → w.getLsbD 19 = w'.getLsbD 19)) := by decide

theorem witness_BlockResetSetsEveryRegister :
    (withQueue stuck [.blockReset]).inputs = .blockReset :: [] := by decide

theorem witness_PendingCommandStallsTheHostPort :
    stuck.pending = some { word := 0x9, request := .xfer 0x5A 0x07, staged := [0x3559] } ∧
    ∀ rest, (withQueue stuck [.access (HostAccess.load .crc)]).inputs ≠ .blockReset :: rest :=
  ⟨by decide, fun _ => by simp [withQueue]⟩

/-- Each clause of UnansweredCommandStaysPending: a bind never answered, by the port's word and by
the end of its answers; SESSION_INIT stopped at its first read, with an 8-bit slave address, and at
its last; REFRESH at its first read and at its last; READ_CONFIG. -/
theorem witness_UnansweredCommandStaysPending :
    ((fresh 0x5A [.never] []).verified = false ∧
      (fresh 0x5A [.never] []).bus.binds.headD .never = .never ∧
      (fresh 0x5A [] []).bus.binds.headD .never = .never) ∧
    (let s := fresh 0x80 [.ok] []
     s.verified = false ∧ (([] : List Half) ≠ [] → s.slaveAddr.toNat < 0x80) ∧
     s.bus.binds = .ok :: [] ∧ sessionInitBytes[([] : List Half).length]? = some 0x2E ∧
     (∀ st ∈ ([] : List Half).head?, AddrCheckPasses s.addrCheckMode st s.slaveAddr) ∧
     s.bus.xfers = List.zipWith (goodAnswer s.slaveAddr) sessionInitBytes [] ++ [] ∧
     ([] : List XferAnswer).headD .never = .never) ∧
    (let s := fresh 0x5A [.ok] (answersG.take 6 ++ [.never])
     let vs : List Half := [0xBE5A, 0x2211, 0x4433, 0x6655, 0x8877, 0xFFFF]
     s.verified = false ∧ (vs ≠ [] → s.slaveAddr.toNat < 0x80) ∧
     s.bus.binds = .ok :: [] ∧ sessionInitBytes[vs.length]? = some 0x25 ∧
     (∀ st ∈ vs.head?, AddrCheckPasses s.addrCheckMode st s.slaveAddr) ∧
     s.bus.xfers = List.zipWith (goodAnswer s.slaveAddr) sessionInitBytes vs ++ [.never] ∧
     [XferAnswer.never].headD .never = .never) ∧
    (let s := live [.never]
     s.verified = true ∧ (([] : List Half) ≠ [] → s.slaveAddr.toNat < 0x80) ∧
     refreshBytes[([] : List Half).length]? = some 0x06 ∧
     s.bus.xfers = List.zipWith (goodAnswer s.slaveAddr) refreshBytes [] ++ [.never] ∧
     [XferAnswer.never].headD .never = .never) ∧
    (let s := live [.ok 0x59 0x35 0x2A, .ok 0xD3 0x3A 0x25]
     let vs : List Half := [0x3559, 0x3AD3]
     s.verified = true ∧ (vs ≠ [] → s.slaveAddr.toNat < 0x80) ∧
     refreshBytes[vs.length]? = some 0x08 ∧
     s.bus.xfers = List.zipWith (goodAnswer s.slaveAddr) refreshBytes vs ++ [] ∧
     ([] : List XferAnswer).headD .never = .never) ∧
    ((live []).verified = true ∧ (live []).bus.xfers.headD .never = .never) := by
  refine ⟨by decide, ⟨by decide, by decide, by decide, by decide, by simp, by decide, by decide⟩,
    ⟨by decide, by decide, by decide, by decide, ?_, by decide, by decide⟩, by decide, by decide,
    by decide⟩
  intro st hst
  simp only [List.head?_cons, Option.mem_def, Option.some.injEq] at hst
  subst hst
  show (0xBE5A#16).extractLsb' 0 8 = 0x5A#8; decide

/-- The decode clauses of NopOnlyClearsErr, CrcResetZeroesTheAccumulator, CrcPutByteFeedsArg,
CrcPutSaFeedsOrRejects, ReadFlagsIsNotImplemented, WriteEepromIsNotImplemented and
SessionCloseEndsTheSession: a word with every other bit set. -/
theorem witness_words_of_the_simple_commands :
    (0xFFFFFFF0#32).extractLsb' 0 4 = 0x0#4 ∧ (0xFFFFFFF1#32).extractLsb' 0 4 = 0x1#4 ∧
    (0xFFFFFFF2#32).extractLsb' 0 4 = 0x2#4 ∧ (0xFFFFFFF3#32).extractLsb' 0 4 = 0x3#4 ∧
    (0xFFFFFFF6#32).extractLsb' 0 4 = 0x6#4 ∧ (0xFFFFFFF7#32).extractLsb' 0 4 = 0x7#4 ∧
    (0xFFFFFFFA#32).extractLsb' 0 4 = 0xA#4 := by decide

theorem witness_CrcValueReadsTheAccumulator :
    (let s := withQueue (live []) [.access (HostAccess.load .crc)]
     s.pending = none ∧ s.inputs = .access (HostAccess.load .crc) :: []) ∧
    (let a : HostAccess := { kind := .read, off := 0x10, width := 2, value := 0#32 }
     (withQueue (live []) [.access a]).pending = none ∧ (2 : Nat) ≠ 4 ∧
     (withQueue (live []) [.access a]).inputs = .access a :: []) := by decide

theorem witness_ReservedCodesAreInvalidCommand :
    0xB ≤ ((0x0000000B#32).extractLsb' 0 4).toNat ∧
    0xB ≤ ((0x0000000F#32).extractLsb' 0 4).toNat := by decide

theorem witness_CrcDetectsOneCorruptedByte : (0x00#8 : Byte) ≠ 0x80#8 := by decide

theorem witness_MapperIsABijection :
    (0x00#8).toNat < 32 ∧ (0x1F#8).toNat < 32 ∧ (0x3F#8).toNat < 0x40 ∧
    ((0b001#3).toNat < 2 ∧ (0x1F#8).toNat < 32 ∧ mapCmd 0b001 0x1F = 0x3F#8) := by decide

/-- READ, READ_RAM and READ_EEPROM at the ends of the address range. -/
theorem witness_ReadReturnsTheWordOnAMatch :
    (let s := live [.ok 0x34 0x12 0x02]
     s.verified = true ∧ (0b000#3).toNat < 2 ∧ (0x1F#8).toNat < 32 ∧
     (0x1F#8).toNat = 32 * (0b000#3).toNat + (0x1F#8).toNat ∧ s.slaveAddr.toNat < 0x80 ∧
     s.bus.xfers = .ok 0x34 0x12 0x02 :: [] ∧
     crcFeed 0x00#8 [s.slaveAddr <<< 1, 0x1F, (s.slaveAddr <<< 1) ||| 0x01#8, 0x34, 0x12] = 0x02) ∧
    (let s := live [.ok 0x00 0x00 0xAA]
     s.verified = true ∧ (0b001#3).toNat < 2 ∧ (0x00#8).toNat < 32 ∧
     (0x20#8).toNat = 32 * (0b001#3).toNat + (0x00#8).toNat ∧ s.slaveAddr.toNat < 0x80 ∧
     s.bus.xfers = .ok 0x00 0x00 0xAA :: [] ∧
     crcFeed 0x00#8 [s.slaveAddr <<< 1, 0x20, (s.slaveAddr <<< 1) ||| 0x01#8, 0x00, 0x00] = 0xAA) := by
  decide

/-- Each clause of ReadChecksInOrder, at the boundary of its range. -/
theorem witness_ReadChecksInOrder :
    (0x20#8).toNat = 32 * (0b001#3).toNat % 256 + (0x20#8).toNat % 32 ∧
    (fresh 0x5A [] []).verified = false ∧
    ((live []).verified = true ∧ 2 ≤ (0b010#3).toNat) ∧
    ((live []).verified = true ∧ (0b001#3).toNat < 2 ∧ 32 ≤ (0x20#8).toNat) ∧
    ((live [.fail]).verified = true ∧ (0b001#3).toNat < 2 ∧ (0x1F#8).toNat < 32 ∧
      (live [.fail]).bus.xfers = .fail :: []) ∧
    (let s := { live [.ok 0x00 0x00 0x00] with slaveAddr := 0x80 }
     s.verified = true ∧ s.bus.xfers = .ok 0x00 0x00 0x00 :: [] ∧ 0x80 ≤ s.slaveAddr.toNat) ∧
    (let s := { live [.ok 0x00 0x00 0x00] with slaveAddr := 0x7F }
     s.verified = true ∧ s.bus.xfers = .ok 0x00 0x00 0x00 :: [] ∧ s.slaveAddr.toNat < 0x80 ∧
     goodPec s.slaveAddr 0x3F 0x00 0x00 ≠ 0x00) ∧
    (live []).bus.xfers.headD .never = .never ∧ (live [.never]).bus.xfers.headD .never = .never := by
  decide

theorem witness_ReservedOpcIsInvalidCommand :
    ((0x00020704#32).extractLsb' 0 4 = 4#4 ∧ 2 ≤ ((0x00020704#32).extractLsb' 16 3).toNat) ∧
    ((0x00074004#32).extractLsb' 0 4 = 4#4 ∧ 2 ≤ ((0x00074004#32).extractLsb' 16 3).toNat) ∧
    (Instr.readReservedOpc 0b010 0x07).wellFormed = true := by decide

/-- READ, READ_RAM and READ_EEPROM at the two sides of the bound. -/
theorem witness_RegisterAddressCheckComesBeforeTheBus :
    (∃ t, (0b001#3).toNat < 2 ∧ exec (.read 0b001 0x1F) (live [.fail]) = .next t ∧
      (live [.fail]).verified = true ∧ (0x1F#8).toNat < 32 ∧
      (live [.fail]).slaveAddr.toNat < 0x80) ∧
    (∃ t, exec (.readRam 0x20) (live []) = .next t ∧ (live []).verified = true ∧
      32 ≤ (0x20#8).toNat) ∧
    (∃ t, exec (.readEeprom 0x1F) { live [] with err := 1 } = .next t ∧ (0x1F#8).toNat < 32 ∧
      t.err = 1) :=
  ⟨⟨_, by decide, rfl, by decide⟩, ⟨_, rfl, by decide⟩, ⟨_, rfl, by decide⟩⟩

theorem witness_ReadConfigWritesConfigAndRdata :
    let s := live [.ok 0xF4 0x9F 0x70]
    s.verified = true ∧ s.slaveAddr.toNat < 0x80 ∧
    s.bus.xfers = goodAnswer s.slaveAddr 0x25#8 0x9FF4 :: [] := by decide

theorem witness_ReadConfigFailureChangesOnlyErr :
    (fresh 0x5A [] []).verified = false ∧
    ((live [.fail]).verified = true ∧ (live [.fail]).slaveAddr.toNat < 0x80 ∧
      (live [.fail]).bus.xfers = .fail :: []) ∧
    BadAnswer 0x5A 0x25#8 2 .fail ∧ BadAnswer 0x5A 0x25#8 3 (.ok 0xF4 0x9F 0x71) := by
  refine ⟨by decide, by decide, ?_, ?_⟩
  · simp
  · exact ⟨by decide, by decide⟩

theorem witness_SensorCommandReturnsTheWord :
    let s := live [.ok 0x59 0x3A 0x11]
    (0x07#8).toNat = (0x07#5).toNat ∧ (0x2E#8).toNat = 32 + (0x0E#5).toNat ∧
    s.slaveAddr.toNat < 0x80 ∧ s.bus.xfers = .ok 0x59 0x3A 0x11 :: [] ∧
    crcFeed 0x00#8 [s.slaveAddr <<< 1, 0x07, (s.slaveAddr <<< 1) ||| 0x01#8, 0x59, 0x3A] = 0x11 := by
  decide

theorem witness_SensorCommandFailures :
    (0x3F#8).toNat = 32 + (0x1F#5).toNat ∧
    (live [.fail]).bus.xfers = .fail :: [] ∧
    (let s := { live [.ok 0x00 0x00 0x00] with slaveAddr := 0x80 }
     s.bus.xfers = .ok 0x00 0x00 0x00 :: [] ∧ 0x80 ≤ s.slaveAddr.toNat) ∧
    (let s := { live [.ok 0x00 0x00 0x00] with slaveAddr := 0x7F }
     s.bus.xfers = .ok 0x00 0x00 0x00 :: [] ∧ s.slaveAddr.toNat < 0x80 ∧
     goodPec s.slaveAddr 0x3F 0x00 0x00 ≠ 0x00) ∧
    ((live [.never]).bus.xfers.headD .never = .never ∧ (live [.never]).bus.xfers.tail = []) ∧
    ((live []).bus.xfers.headD .never = .never ∧ (live []).bus.xfers.tail = []) := by decide

theorem witness_ConverterRange :
    (0xFFFF#16).toNat = (0xFFFE#16).toNat + 1 ∧ (0x0000#16).toNat < (0xFFFF#16).toNat ∧
    convTemp 0x8000 = convTemp 0x8000 := by decide

/-- SESSION_INIT in both modes, and at the two ends of the address range. -/
theorem witness_SessionInitCommitsEverythingAtOnce :
    (let s := fresh 0x5A [.ok] answersG
     s.verified = false ∧ s.slaveAddr.toNat < 0x80 ∧ s.bus.binds = .ok :: [] ∧
     s.bus.xfers = List.zipWith (goodAnswer s.slaveAddr) sessionInitBytes
       [0xBE5A, 0x2211, 0x4433, 0x6655, 0x8877, 0xFFFF, 0x9FF4] ++ [] ∧
     AddrCheckPasses s.addrCheckMode 0xBE5A s.slaveAddr ∧ s.SessionInvariant) ∧
    (let s := { fresh 0x7F [.ok] (List.zipWith (goodAnswer 0x7F) sessionInitBytes
        [0x007F, 0, 0, 0, 0, 0, 0]) with addrCheckMode := .fullWord }
     s.verified = false ∧ s.slaveAddr.toNat < 0x80 ∧ s.bus.binds = .ok :: [] ∧
     s.bus.xfers = List.zipWith (goodAnswer s.slaveAddr) sessionInitBytes
       [0x007F, 0, 0, 0, 0, 0, 0] ++ [] ∧
     AddrCheckPasses s.addrCheckMode 0x007F s.slaveAddr ∧ s.SessionInvariant) := by
  refine ⟨⟨by decide, by decide, by decide, by decide, ?_, by decide⟩,
    ⟨by decide, by decide, by decide, by decide, ?_, by decide⟩⟩
  · show (0xBE5A#16).extractLsb' 0 8 = 0x5A#8; decide
  · show 0x007F#16 = 0x00#8 ++ 0x7F#8; decide

/-- Each clause of SessionInitFirstChecks: a live session, a failed bind, a mismatch in each mode,
and the first slave address with bit 7 set, with data and with a failed transfer. -/
theorem witness_SessionInitFirstChecks :
    (live []).verified = true ∧
    ((fresh 0x5A [.fail] []).verified = false ∧ (fresh 0x5A [.fail] []).bus.binds = .fail :: []) ∧
    (let s := fresh 0x5A [.ok] [.ok 0x5B 0x00 0xF5]
     s.verified = false ∧ s.slaveAddr.toNat < 0x80 ∧ s.bus.binds = .ok :: [] ∧
     s.bus.xfers = goodAnswer s.slaveAddr 0x2E#8 0x005B :: [] ∧
     ¬ AddrCheckPasses s.addrCheckMode 0x005B s.slaveAddr) ∧
    (let s := { fresh 0x5A [.ok] [.ok 0x5A 0xBE 0xD3] with addrCheckMode := .fullWord }
     s.verified = false ∧ s.slaveAddr.toNat < 0x80 ∧ s.bus.binds = .ok :: [] ∧
     s.bus.xfers = goodAnswer s.slaveAddr 0x2E#8 0xBE5A :: [] ∧
     ¬ AddrCheckPasses s.addrCheckMode 0xBE5A s.slaveAddr) ∧
    (let s := fresh 0x80 [.ok] [.ok 0x00 0x01 0x00]
     s.verified = false ∧ 0x80 ≤ s.slaveAddr.toNat ∧ s.bus.binds = .ok :: [] ∧
     s.bus.xfers = .ok 0x00 0x01 0x00 :: []) ∧
    (let s := fresh 0x80 [.ok] [.fail]
     s.verified = false ∧ 0x80 ≤ s.slaveAddr.toNat ∧ s.bus.binds = .ok :: [] ∧
     s.bus.xfers = .fail :: []) := by
  refine ⟨by decide, by decide, ⟨by decide, by decide, by decide, by decide, ?_⟩,
    ⟨by decide, by decide, by decide, by decide, ?_⟩, by decide, by decide⟩
  · show ¬ (0x005B#16).extractLsb' 0 8 = 0x5A#8; decide
  · show ¬ 0xBE5A#16 = 0x00#8 ++ 0x5A#8; decide

/-- SESSION_INIT stopped at its first read and at its last. -/
theorem witness_SessionInitAbortsAtTheFirstBadRead :
    (let s := fresh 0x5A [.ok] [.fail]
     s.verified = false ∧ s.slaveAddr.toNat < 0x80 ∧ s.bus.binds = .ok :: [] ∧
     sessionInitBytes[([] : List Half).length]? = some 0x2E ∧
     s.bus.xfers = List.zipWith (goodAnswer s.slaveAddr) sessionInitBytes [] ++ .fail :: [] ∧
     (∀ st ∈ ([] : List Half).head?, AddrCheckPasses s.addrCheckMode st s.slaveAddr) ∧
     BadAnswer s.slaveAddr 0x2E 2 .fail) ∧
    (let s := fresh 0x5A [.ok] (answersG.take 6 ++ [.ok 0xF4 0x9F 0x00])
     let vs : List Half := [0xBE5A, 0x2211, 0x4433, 0x6655, 0x8877, 0xFFFF]
     s.verified = false ∧ s.slaveAddr.toNat < 0x80 ∧ s.bus.binds = .ok :: [] ∧
     sessionInitBytes[vs.length]? = some 0x25 ∧
     s.bus.xfers =
       List.zipWith (goodAnswer s.slaveAddr) sessionInitBytes vs ++ .ok 0xF4 0x9F 0x00 :: [] ∧
     (∀ st ∈ vs.head?, AddrCheckPasses s.addrCheckMode st s.slaveAddr) ∧
     BadAnswer s.slaveAddr 0x25 3 (.ok 0xF4 0x9F 0x00)) := by
  refine ⟨⟨by decide, by decide, by decide, by decide, by decide, by simp, by simp⟩,
    ⟨by decide, by decide, by decide, by decide, by decide, ?_, by decide, rfl⟩⟩
  intro st hst
  simp only [List.head?_cons, Option.mem_def, Option.some.injEq] at hst
  subst hst
  show (0xBE5A#16).extractLsb' 0 8 = 0x5A#8; decide

theorem witness_SessionInitNeverVerifiesAnEightBitAddress :
    ∃ t, 0x80 ≤ (fresh 0x80 [.ok] [.ok 0x00 0x01 0x00]).slaveAddr.toNat ∧
      (fresh 0x80 [.ok] [.ok 0x00 0x01 0x00]).verified = false ∧
      exec .sessionInit (fresh 0x80 [.ok] [.ok 0x00 0x01 0x00]) = .next t :=
  ⟨_, by decide, by decide, rfl⟩

theorem witness_RefreshCommitsThreeTemperatures :
    (fresh 0x5A [] []).verified = false ∧
    (let s := live answersT
     s.verified = true ∧ s.slaveAddr.toNat < 0x80 ∧
     s.bus.xfers =
       List.zipWith (goodAnswer s.slaveAddr) refreshBytes [0x3559, 0x3AD3, 0x355A] ++ []) := by
  decide

/-- REFRESH stopped at its first read and at its last. -/
theorem witness_RefreshIsAllOrNothing :
    (let s := live [.fail]
     s.verified = true ∧ s.slaveAddr.toNat < 0x80 ∧
     refreshBytes[([] : List Half).length]? = some 0x06 ∧
     s.bus.xfers = List.zipWith (goodAnswer s.slaveAddr) refreshBytes [] ++ .fail :: [] ∧
     BadAnswer s.slaveAddr 0x06 2 .fail) ∧
    (let s := live [.ok 0x59 0x35 0x2A, .ok 0xD3 0x3A 0x25, .ok 0x5A 0x35 0xD0]
     s.verified = true ∧ s.slaveAddr.toNat < 0x80 ∧
     refreshBytes[([0x3559, 0x3AD3] : List Half).length]? = some 0x08 ∧
     s.bus.xfers = List.zipWith (goodAnswer s.slaveAddr) refreshBytes [0x3559, 0x3AD3] ++
       .ok 0x5A 0x35 0xD0 :: [] ∧
     BadAnswer s.slaveAddr 0x08 3 (.ok 0x5A 0x35 0xD0)) :=
  ⟨⟨by decide, by decide, by decide, by decide, by simp⟩,
    ⟨by decide, by decide, by decide, by decide, ⟨by decide, rfl⟩⟩⟩

theorem witness_RefreshLeavesTheOtherRegisters :
    ∃ t, exec .refresh (live answersT) = .next t ∧ t.tempValid = true :=
  ⟨_, rfl, by decide⟩

/-- SESSION_INIT and REFRESH that commit, one instruction of one request and one of none. -/
theorem witness_RequestsFollowTheRuleWithoutRetry :
    (∃ t, exec .sessionInit (fresh 0x5A [.ok] answersG) = .next t ∧
      (fresh 0x5A [.ok] answersG).verified = false ∧ t.verified = true) ∧
    (∃ t, exec .refresh (live answersT) = .next t ∧ (live answersT).tempValid = false ∧
      t.tempValid = true) ∧
    (∃ t, Instr.readConfig ≠ .sessionInit ∧ Instr.readConfig ≠ .refresh ∧
      exec .readConfig (live [.ok 0xF4 0x9F 0x70]) = .next t) ∧
    (∃ t, exec (.crcPutByte 0x31) (live []) = .next t) :=
  ⟨⟨_, rfl, by decide⟩, ⟨_, rfl, by decide⟩, ⟨_, by simp, by simp, rfl⟩, ⟨_, rfl⟩⟩

theorem witness_OnlyCmdWritesHaveSideEffects :
    (withQueue (live []) [.access (HostAccess.load .cmd)]).inputs =
      .access (HostAccess.load .cmd) :: [] ∧
    (∃ t, (withQueue (live []) [.access (HostAccess.store .cmd 0x0000000F)]).inputs =
        .access (HostAccess.store .cmd 0x0000000F) :: [] ∧
      exec (decodeWord 0x0000000F) (live []) = .next t ∧ t.pending = none) ∧
    (let s := withQueue (fresh 0x00 [] []) [.access (HostAccess.store .slaveAddr 0xFF)]
     s.pending = none ∧ s.inputs = .access (HostAccess.store .slaveAddr 0xFF) :: [] ∧
     s.verified = false) ∧
    (let s := withQueue (live []) [.access (HostAccess.store .slaveAddr 0x33)]
     s.pending = none ∧ s.inputs = .access (HostAccess.store .slaveAddr 0x33) :: [] ∧
     s.verified = true) ∧
    (let s := withQueue (live []) [.access (HostAccess.store .unmapped 0xFF)]
     s.pending = none ∧ s.inputs = .access (HostAccess.store .unmapped 0xFF) :: [] ∧
     HostReg.unmapped ≠ .cmd ∧ HostReg.unmapped ≠ .slaveAddr) :=
  ⟨by decide, ⟨_, by decide, rfl, rfl⟩, by decide⟩

/-- Each way an access is not admitted, and the last admitted offset. -/
theorem witness_OtherAccessesAreHostBusErrors :
    (live []).pending = none ∧
    (({ kind := .read, off := 0x04, width := 2, value := 0 } : HostAccess).width ≠ 4 ∧
      ({ kind := .write, off := 0x02, width := 4, value := 0 } : HostAccess).off % 4 ≠ 0 ∧
      ({ kind := .write, off := -4, width := 4, value := 0 } : HostAccess).off < 0 ∧
      0x3C < ({ kind := .write, off := 0x40, width := 4, value := 0 } : HostAccess).off) ∧
    (let a : HostAccess := { kind := .write, off := 0x3C, width := 4, value := 0 }
     a.width = 4 ∧ a.off % 4 = 0 ∧ 0 ≤ a.off ∧ a.off ≤ 0x3C ∧ HostReg.unmapped ≠ .cmd ∧
     (withQueue (live []) [.access a]).inputs = .access a :: []) := by decide

/-- A session with a valid triple has the invariants, and a step from it answers a next state. -/
theorem witness_EveryStepKeepsTheSessionInvariant :
    (∃ t, ({ withQueue (live answersT) [.access (HostAccess.store .cmd 0x0000000A)] with
        tempValid := true, tempTa := 0x0001954B, tempTobj1 := 0xFFFF954D,
        tempTobj2 := 0 } : State).SessionInvariant ∧
      step { withQueue (live answersT) [.access (HostAccess.store .cmd 0x0000000A)] with
        tempValid := true, tempTa := 0x0001954B, tempTobj1 := 0xFFFF954D,
        tempTobj2 := 0 } = .next t) ∧
    (withQueue stuck [.blockReset]).inputs = .blockReset :: [] :=
  ⟨⟨_, by decide, rfl⟩, by decide⟩

theorem witness_EveryStepKeepsErrALegalCode :
    (∃ t, (withQueue (live []) [.access (HostAccess.store .cmd 0x0000000F)]).ErrCodeLegal ∧
      step (withQueue (live []) [.access (HostAccess.store .cmd 0x0000000F)]) = .next t) ∧
    (∃ t, (live []).ErrCodeLegal ∧ exec .reservedF (live []) = .next t) :=
  ⟨⟨_, by decide, rfl⟩, ⟨_, by decide, rfl⟩⟩

/-- A command that becomes pending, and one that is pending already. -/
theorem witness_EveryStepKeepsThePendingRequestLast :
    (∃ t, (withQueue (live []) [.access (HostAccess.store .cmd 0x00000009)]).PendingIsLastRequest ∧
      step (withQueue (live []) [.access (HostAccess.store .cmd 0x00000009)]) = .next t ∧
      t.pending.isSome = true) ∧
    (∃ t, stuck.PendingIsLastRequest ∧ step stuck = .next t) :=
  ⟨⟨_, by decide, rfl, by decide⟩, ⟨_, by decide, rfl⟩⟩

theorem witness_StepsEmitOnlyLegalRequests :
    ∃ t, step (withQueue (live answersT) [.access (HostAccess.store .cmd 0x00000009)]) = .next t ∧
      t.bus.log.length = 3 :=
  ⟨_, rfl, by decide⟩

/-- A command of each outcome. -/
theorem witness_HostCommandsHaveThreeOutcomes :
    Instr.refresh.format = .hostCmd ∧
    (∃ t, exec .refresh (live answersT) = .next t ∧ t.err = 0) ∧
    (∃ t, exec .refresh (live [.fail]) = .next t ∧ t.err = 2) ∧
    (∃ t, exec .refresh (live []) = .next t ∧ t.pending.isSome = true) :=
  ⟨rfl, ⟨_, rfl, by decide⟩, ⟨_, rfl, by decide⟩, ⟨_, rfl, by decide⟩⟩

theorem witness_SessionStateTransitions :
    (∃ t, exec .sessionInit (fresh 0x5A [.ok] answersG) = .next t ∧
      (fresh 0x5A [.ok] answersG).verified = false ∧ t.verified = true ∧ t.err = 0 ∧
      t.pending = none) ∧
    (∃ t, exec .sessionClose (live []) = .next t ∧ (live []).verified = true ∧
      t.verified = false) ∧
    (withQueue (live []) [.blockReset]).inputs = .blockReset :: [] :=
  ⟨⟨_, rfl, by decide⟩, ⟨_, rfl, by decide⟩, by decide⟩

theorem witness_SlaveAddrIsFixedDuringASession :
    ∃ t, step (withQueue (fresh 0x00 [] []) [.access (HostAccess.store .slaveAddr 0x5A)]) = .next t ∧
      t.slaveAddr ≠ (withQueue (fresh 0x00 [] [])
        [.access (HostAccess.store .slaveAddr 0x5A)]).slaveAddr :=
  ⟨_, rfl, by decide⟩

/-- Each register of RegisterWriters changes under some command. -/
theorem witness_RegisterWriters :
    (∃ t, (Instr.readRam 0x07).wellFormed = true ∧
      exec (.readRam 0x07) (live [.ok 0x59 0x3A 0x11]) = .next t ∧ t.rdata ≠ 0x1234) ∧
    (∃ t, exec (.crcPutByte 0x31) (live []) = .next t ∧ t.crcAcc ≠ 0x00) ∧
    (∃ t, exec .sessionInit (fresh 0x5A [.ok] answersG) = .next t ∧ t.config ≠ 0 ∧
      t.emissivity ≠ 0) ∧
    (∃ t, exec .refresh (live answersT) = .next t ∧ t.tempTa ≠ 0x80000000) :=
  ⟨⟨_, rfl, rfl, by decide⟩, ⟨_, rfl, by decide⟩, ⟨_, rfl, by decide⟩, ⟨_, rfl, by decide⟩⟩

theorem witness_OtherCommandsIgnoreCrcAcc :
    Instr.refresh ≠ .crcReset ∧ (∀ b, Instr.refresh ≠ .crcPutByte b) ∧
    (∀ a rw, Instr.refresh ≠ .crcPutSa a rw) ∧ ∃ t, exec .refresh (live answersT) = .next t :=
  ⟨by simp, by simp, by simp, ⟨_, rfl⟩⟩

/-- Two states that differ in what no command reads, ERR and the pending command among them, for a
REFRESH that ends and for one that stays pending. -/
theorem witness_CommandsDependOnlyOnSessionAndBus :
    (let s := live answersT
     let s' := { live answersT with
       rdata := 0, crcAcc := 0xFF, tempValid := true, err := 5, pending := stuck.pending }
     s.verified = s'.verified ∧ s.slaveAddr = s'.slaveAddr ∧ s.bus = s'.bus ∧
     s.addrCheckMode = s'.addrCheckMode ∧
     (∃ t, exec .refresh s = .next t ∧ t.err = 0) ∧ ∃ t, exec .refresh s' = .next t ∧ t.err = 0) ∧
    (let s := live []
     let s' := { live [] with err := 5 }
     s.verified = s'.verified ∧ s.slaveAddr = s'.slaveAddr ∧ s.bus = s'.bus ∧
     s.addrCheckMode = s'.addrCheckMode ∧
     (∃ t, exec .refresh s = .next t ∧ t.err = 0 ∧ t.pending.isSome = true) ∧
     ∃ t, exec .refresh s' = .next t ∧ t.err = 5 ∧ t.pending.isSome = true) :=
  ⟨⟨rfl, rfl, rfl, rfl, ⟨_, rfl, by decide⟩, ⟨_, rfl, by decide⟩⟩,
    ⟨rfl, rfl, rfl, rfl, ⟨_, rfl, by decide⟩, ⟨_, rfl, by decide⟩⟩⟩

end Sys2Proof.Tests
end

/-! PROOF. What the instructions answer and how a step runs them: O7, O55, O1, O9. -/

namespace Sys2Proof.Machine

/-! ## Commands always answer -/

/-- A command over the bus commits, fails or stays pending, and each is a next state (R9). -/
theorem runCommand_answers {α : Type} (w : Word) (s : State) (proc : Ctx → Res α × Ctx)
    (commit : α → State → State) : ∃ t, runCommand w s proc commit = .next t := by
  rcases runCommand_cases w s proc commit with ⟨_, _, -, h⟩ | ⟨_, _, -, h⟩ | ⟨_, _, -, h⟩ <;>
    exact ⟨_, h⟩

theorem requireSession_answers (s : State) {body : StepOutcome} (hb : ∃ t, body = .next t) :
    ∃ t, requireSession s body = .next t := by
  rcases requireSession_cases s body with ⟨-, h⟩ | ⟨-, h⟩
  · rw [h]; exact hb
  · exact ⟨_, h⟩

theorem readCommand_answers (w : Word) (opc : BitVec 3) (a : Byte) (s : State) :
    ∃ t, readCommand w opc a s = .next t := by
  unfold readCommand
  split
  · exact runCommand_answers ..
  · exact ⟨_, rfl⟩

theorem runTransaction_answers (cmd : Byte) (s : State) : ∃ t, runTransaction cmd s = .next t := by
  rcases runTransaction_cases cmd s with ⟨_, _, -, h⟩ | ⟨_, _, -, h⟩ | ⟨_, _, -, h⟩ <;>
    exact ⟨_, h⟩

/-- Settles O7, arm by arm: every shared operation an arm ends in answers a next state. -/
theorem everyInstructionAnswersANextState : Obligations.EveryInstructionAnswersANextState := by
  intro i s
  cases i with
  | nop | crcReset | crcPutByte | readFlags | writeEeprom | sessionClose => exact ⟨_, rfl⟩
  | reservedB | reservedC | reservedD | reservedE | reservedF => exact ⟨_, rfl⟩
  | crcPutSa a rw =>
    simp only [exec, execCrcPutSa]
    split <;> exact ⟨_, rfl⟩
  | read | readReservedOpc => exact requireSession_answers s (readCommand_answers ..)
  | readRam | readEeprom | readConfig | refresh =>
    exact requireSession_answers s (runCommand_answers ..)
  | sessionInit =>
    simp only [exec, execSessionInit]
    split
    · exact ⟨_, rfl⟩
    · exact runCommand_answers ..
  | smbusRamRead | smbusEepromRead => exact runTransaction_answers ..

/-- Settles O55, along the states an instruction can leave. -/
theorem hostCommandsHaveThreeOutcomes : Obligations.HostCommandsHaveThreeOutcomes := by
  intro i s t hf h
  cases exec_effect h with
  | nop | crcReset | crcPutByte | crcPutSa | sessionClose => exact .inl ⟨rfl, rfl⟩
  | sessionInit | refresh | readConfig | read => exact .inl ⟨rfl, rfl⟩
  | error k => exact .inr (.inl ⟨k, rfl⟩)
  | pending p => exact .inr (.inr ⟨p, rfl⟩)
  | transaction _ _ _ hs => exact absurd (hf.symm.trans hs) (by decide)

/-- Settles O1: the word's bytes decode to the instruction `issue` runs, which answers by O7. -/
theorem stepRunsTheIssuedCommand : Obligations.StepRunsTheIssuedCommand := by
  intro s w rest i hp hi hd _
  obtain rfl : decodeWord w = i := Except.ok.inj ((decodeBytes_wordBytes w).symm.trans hd)
  obtain ⟨t, ht⟩ := everyInstructionAnswersANextState (decodeWord w) (s.withInputs rest)
  refine ⟨t, ht, ?_⟩
  rw [step_access hp hi, hostAccess_store_cmd]
  rcases issue_next ht with ⟨hn, h⟩ | ⟨p, hs, h⟩ <;> rw [h] <;> split
  · rfl
  · next hs => cases hn.symm.trans hs
  · next hn => cases hs.symm.trans hn
  · next hs' => cases hs.symm.trans hs'; rfl

/-- Settles O9. -/
theorem pendingCommandStallsTheHostPort : Obligations.PendingCommandStallsTheHostPort :=
  fun _ _ hp hi => step_stalled hp hi

end Sys2Proof.Machine

/-! PROOF. The CRC unit as division of polynomials over the field of two elements: O24. -/

namespace Sys2Proof.Machine

open Polynomial

/-- A byte as a polynomial over the field of two elements: bit `k` is the coefficient of `X ^ k`. -/
noncomputable def bytePoly (b : Byte) : (ZMod 2)[X] :=
  ∑ i : Fin 8, if b.getLsbD i then (X : (ZMod 2)[X]) ^ (i : Nat) else 0

/-- The generator of R100, its top term written out. -/
noncomputable def crcGenerator : (ZMod 2)[X] := X ^ 8 + X ^ 2 + X + 1

/-- A message as a polynomial, the first byte at the high end. -/
noncomputable def messagePoly (m : List Byte) : (ZMod 2)[X] :=
  m.foldl (fun acc b => acc * X ^ 8 + bytePoly b) 0

theorem messagePoly_concat (m : List Byte) (b : Byte) :
    messagePoly (m ++ [b]) = messagePoly m * X ^ 8 + bytePoly b := by
  simp [messagePoly]

theorem crcGenerator_degree : crcGenerator.degree = 8 := by
  unfold crcGenerator; compute_degree!

theorem crcGenerator_monic : crcGenerator.Monic := by
  unfold crcGenerator; monicity!

theorem bytePoly_zero : bytePoly 0x00#8 = 0 := by
  simp [bytePoly]

theorem bytePoly_degree_lt (b : Byte) : (bytePoly b).degree < 8 := by
  refine (degree_sum_le _ _).trans_lt ((Finset.sup_lt_iff (by decide)).2 fun i _ => ?_)
  split
  · rw [degree_X_pow]; exact_mod_cast i.isLt
  · rw [degree_zero]; decide

/-- XOR of bytes is addition of polynomials. -/
theorem bytePoly_xor (a b : Byte) : bytePoly (a ^^^ b) = bytePoly a + bytePoly b := by
  unfold bytePoly
  rw [← Finset.sum_add_distrib]
  refine Finset.sum_congr rfl fun i _ => ?_
  rw [BitVec.getLsbD_xor]
  cases a.getLsbD i <;> cases b.getLsbD i <;> simp [CharTwo.add_self_eq_zero]

/-- A left shift is multiplication by `X`, less the term pushed out at the top. -/
theorem bytePoly_shiftLeft (v : Byte) :
    bytePoly (v <<< 1) + (if v.msb then X ^ 8 else 0) = bytePoly v * X := by
  simp [bytePoly, Fin.sum_univ_eight, BitVec.msb_eq_getLsbD_last, add_mul, ← pow_succ, ← pow_two]

theorem bytePoly_crcPoly : bytePoly crcPoly = 1 + X + X ^ 2 := by
  simp [bytePoly, crcPoly, Fin.sum_univ_eight]

theorem crcGenerator_eq : crcGenerator = bytePoly crcPoly + X ^ 8 := by
  rw [crcGenerator, bytePoly_crcPoly]; ring

/-- One iteration of the loop multiplies by `X` and takes the generator off once if the top bit was
set. -/
theorem bytePoly_crcShift (v : Byte) :
    bytePoly (crcShift v) + (if v.msb then crcGenerator else 0) = bytePoly v * X := by
  rw [← bytePoly_shiftLeft, crcShift]
  split
  · rw [bytePoly_xor, crcGenerator_eq]
    linear_combination CharTwo.add_self_eq_zero (bytePoly crcPoly)
  · rfl

/-! The loop's iterations, in the quotient by the generator. -/

theorem mk_bytePoly_crcShift (v : Byte) :
    AdjoinRoot.mk crcGenerator (bytePoly (crcShift v)) =
      AdjoinRoot.mk crcGenerator (bytePoly v * X) := by
  rw [← bytePoly_crcShift]
  split <;> simp

theorem mk_bytePoly_crcShifts (n : Nat) (v : Byte) :
    AdjoinRoot.mk crcGenerator (bytePoly (crcShifts n v)) =
      AdjoinRoot.mk crcGenerator (bytePoly v * X ^ n) := by
  induction n generalizing v with
  | zero => simp [crcShifts]
  | succ n ih =>
    rw [crcShifts, ih, map_mul, mk_bytePoly_crcShift, ← map_mul, pow_succ', mul_assoc]

theorem mk_bytePoly_crcStep (c b : Byte) :
    AdjoinRoot.mk crcGenerator (bytePoly (crcStep c b)) =
      AdjoinRoot.mk crcGenerator ((bytePoly c + bytePoly b) * X ^ 8) := by
  rw [crcStep, mk_bytePoly_crcShifts, bytePoly_xor]

theorem crcFeed_concat (c : Byte) (m : List Byte) (b : Byte) :
    crcFeed c (m ++ [b]) = crcStep (crcFeed c m) b := by
  simp [crcFeed]

/-- The CRC is congruent to the message times `X ^ 8`: each byte adds its polynomial and the loop
multiplies by `X ^ 8`. -/
theorem mk_bytePoly_crcFeed (m : List Byte) :
    AdjoinRoot.mk crcGenerator (bytePoly (crcFeed 0x00#8 m)) =
      AdjoinRoot.mk crcGenerator (messagePoly m * X ^ 8) := by
  induction m using List.reverseRecOn with
  | nil => simp [crcFeed, messagePoly, bytePoly_zero]
  | append_singleton m b ih =>
    rw [crcFeed_concat, mk_bytePoly_crcStep, messagePoly_concat, map_mul, map_add, ih, ← map_add,
      ← map_mul]

/-- A polynomial below degree 8 is the remainder of whatever it is congruent to. -/
theorem eq_modByMonic_crcGenerator {r f : (ZMod 2)[X]} (hr : r.degree < 8)
    (h : AdjoinRoot.mk crcGenerator r = AdjoinRoot.mk crcGenerator f) : r = f %ₘ crcGenerator := by
  have hf : r %ₘ crcGenerator = f %ₘ crcGenerator :=
    (AdjoinRoot.modByMonicHom_mk crcGenerator_monic r).symm.trans
      ((congrArg _ h).trans (AdjoinRoot.modByMonicHom_mk crcGenerator_monic f))
  rwa [(modByMonic_eq_self_iff crcGenerator_monic).2 (crcGenerator_degree ▸ hr)] at hf

/-- Settles O24: the CRC has degree below 8 and is congruent to the message times `X ^ 8`. -/
theorem crcIsThePolynomialRemainder : Obligations.CrcIsThePolynomialRemainder := fun m =>
  eq_modByMonic_crcGenerator (bytePoly_degree_lt _) (mk_bytePoly_crcFeed m)

end Sys2Proof.Machine

/-! PROOF. Transactions by their answer, and sequences of reads: O35, O10. -/

namespace Sys2Proof.Machine

/-! ## One transaction, answer by answer (R124 to R128) -/

section
variable {sa cmd : Byte} {c : Ctx} {rest : List XferAnswer}

theorem transact_fail (hx : c.bus.xfers = .fail :: rest) :
    transact sa cmd c = (.err .ioError, { c with bus := c.bus.afterXfer (.xfer sa cmd) rest }) := by
  simp [transact, BusPort.askXfer, hx, BusPort.afterXfer]

theorem transact_illegal {b0 b1 b2 : Byte} (hsa : 0x80 ≤ sa.toNat)
    (hx : c.bus.xfers = .ok b0 b1 b2 :: rest) :
    transact sa cmd c = (.err .invalidAddress,
      { c with bus := c.bus.afterXfer (.xfer sa cmd) rest, txnCrc := 0x00#8 }) := by
  simp [transact, BusPort.askXfer, hx, BusPort.afterXfer, pec_of_illegal hsa, crcInit]

theorem transact_badPec {b0 b1 b2 : Byte} (hsa : sa.toNat < 0x80)
    (hx : c.bus.xfers = .ok b0 b1 b2 :: rest) (hp : goodPec sa cmd b0 b1 ≠ b2) :
    transact sa cmd c = (.err .crcMismatch,
      { c with bus := c.bus.afterXfer (.xfer sa cmd) rest, txnCrc := goodPec sa cmd b0 b1 }) := by
  simp [transact, BusPort.askXfer, hx, BusPort.afterXfer, pec_of_legal hsa, hp]

/-- No answer, whether the port says so or its answers have run out (R9). -/
theorem transact_unanswered (hx : c.bus.xfers.headD .never = .never) :
    transact sa cmd c =
      (.hung (.xfer sa cmd), { c with bus := c.bus.afterXfer (.xfer sa cmd) c.bus.xfers.tail }) := by
  simp only [transact, BusPort.askXfer, hx, BusPort.afterXfer]

end

/-! ## Running a command whose procedure is known -/

theorem runCommand_hung {α : Type} {w : Word} {s : State} {proc : Ctx → Res α × Ctx}
    {commit : α → State → State} {r : BusRequest} {c : Ctx}
    (h : proc (Ctx.start s) = (.hung r, c)) :
    runCommand w s proc commit =
      .next ((s.withBus c.bus).hang { word := w, request := r, staged := c.staged }) := by
  simp only [runCommand, h]

theorem runTransaction_err {cmd : Byte} {s : State} {k : ErrKind} {c : Ctx}
    (h : transact s.slaveAddr cmd (Ctx.start s) = (.err k, c)) :
    runTransaction cmd s =
      .next { s with bus := c.bus, txnCrc := c.txnCrc, txnResult := some (.error k) } := by
  simp only [runTransaction, h]

theorem runTransaction_hung {cmd : Byte} {s : State} {r : BusRequest} {c : Ctx}
    (h : transact s.slaveAddr cmd (Ctx.start s) = (.hung r, c)) :
    runTransaction cmd s = .next ((s.withBus c.bus).hang
      { word := cmd.setWidth 32, request := r, staged := c.staged }) := by
  simp only [runTransaction, h]

theorem requireSession_live {s : State} (hv : s.verified = true) (body : StepOutcome) :
    requireSession s body = body := by
  simp [requireSession, hv]

/-! ## The sensor commands run alone -/

/-- The command byte of a sensor command: its space's OPC over its offset (R80, R120). -/
theorem mapCmd_setWidth {opc : BitVec 3} {address : BitVec 5} {cmd : Byte}
    (h : cmd.toNat = 32 * opc.toNat + address.toNat) : mapCmd opc (address.setWidth 8) = cmd := by
  have ha : (address.setWidth 8).toNat = address.toNat :=
    BitVec.toNat_setWidth_of_le (by decide)
  apply BitVec.eq_of_toNat_eq
  rw [mapCmd_toNat opc (ha ▸ address.isLt), ha, h]

theorem exec_sensorCommand {s : State} {address : BitVec 5} {cmd : Byte} {i : Instr}
    (h : (i = .smbusRamRead address ∧ cmd.toNat = address.toNat) ∨
      (i = .smbusEepromRead address ∧ cmd.toNat = 32 + address.toNat)) :
    exec i s = runTransaction cmd s := by
  obtain ⟨rfl, hc⟩ | ⟨rfl, hc⟩ := h
  · rw [exec, execSmbusRamRead, mapCmd_setWidth (by simpa [opcRam] using hc)]
  · rw [exec, execSmbusEepromRead, mapCmd_setWidth (by simpa [opcEeprom] using hc)]

/-- Settles O35: one transaction, by its answer. -/
theorem sensorCommandFailures : Obligations.SensorCommandFailures := by
  intro s address cmd rest i hi asked
  rw [exec_sensorCommand hi]
  refine ⟨fun hx => ?fail, fun b0 b1 b2 hx hsa => ?illegal, fun b0 b1 b2 hx hsa hp => ?badPec,
    fun hx hr => ?unanswered⟩
  case fail => exact runTransaction_err (transact_fail hx)
  case illegal => exact runTransaction_err (transact_illegal hsa hx)
  case badPec => exact runTransaction_err (transact_badPec hsa hx hp)
  case unanswered =>
    subst hr
    rw [runTransaction_hung (transact_unanswered hx), BitVec.setWidth_eq_append (by decide)]
    rfl

/-! ## A sequence of reads -/

/-- A procedure whose reads are `cmds`, in order: when the port answers the first ones well, with
the words `vs`, what is left is the transaction of the next command byte on the port so far, with
`vs` staged, and then some continuation. -/
def ReadsInOrder {α : Type} (sa : Byte) (cmds : List Byte) (vs : List Half)
    (proc : Ctx → Res α × Ctx) : Prop :=
  ∀ (c : Ctx) (cmd : Byte) (rest : List XferAnswer),
    cmds[vs.length]? = some cmd → (vs ≠ [] → sa.toNat < 0x80) →
    c.bus.xfers = List.zipWith (goodAnswer sa) cmds vs ++ rest →
    ∃ (crc : Byte) (next : Half → Ctx → Res α × Ctx),
      proc c = andThen (transact sa cmd
        { bus := { c.bus with
            xfers := rest, log := c.bus.log ++ (cmds.take vs.length).map (.xfer sa) }
          txnCrc := crc, staged := c.staged ++ vs }) next

/-- After its last read a procedure has no next read. -/
theorem readsInOrder_nil {α : Type} {sa : Byte} {vs : List Half} {proc : Ctx → Res α × Ctx} :
    ReadsInOrder sa [] vs proc := by
  intro c cmd rest hcmd
  simp at hcmd

/-- One more read in front: only for the words that are read does the rest matter. -/
theorem readsInOrder_cons {α : Type} {sa a : Byte} {opc : BitVec 3} {cmds : List Byte}
    {vs : List Half} {f : Half → Ctx → Res α × Ctx} (ha : a.toNat < 32)
    (hf : ∀ v ws, vs = v :: ws → ReadsInOrder sa cmds ws (f v)) :
    ReadsInOrder sa (mapCmd opc a :: cmds) vs fun c => andThen (readTxn sa opc a c) f := by
  intro c cmd rest hcmd hsa hx
  cases vs with
  | nil =>
    obtain rfl : mapCmd opc a = cmd := by simpa using hcmd
    obtain rfl : c.bus.xfers = rest := by simpa using hx
    exact ⟨c.txnCrc, f, by simp [readTxn_legal ha]⟩
  | cons v ws =>
    have hgood := readTxn_good (hsa (by simp)) ha hx
    obtain ⟨crc, next, h⟩ := hf v ws rfl (readTxn sa opc a c).2 cmd rest (by simpa using hcmd)
      (fun _ => hsa (by simp)) (by rw [hgood]; rfl)
    rw [hgood] at h
    refine ⟨crc, next, ?_⟩
    change andThen (readTxn sa opc a c) f = _
    rw [hgood, andThen_ok, h]
    simp [BusPort.afterXfer]

/-- A sequence of reads whose next transfer is never answered. -/
theorem ReadsInOrder.hung {α : Type} {sa cmd : Byte} {cmds : List Byte} {vs : List Half}
    {proc : Ctx → Res α × Ctx} {c : Ctx} {rest : List XferAnswer}
    (h : ReadsInOrder sa cmds vs proc) (hcmd : cmds[vs.length]? = some cmd)
    (hsa : vs ≠ [] → sa.toNat < 0x80)
    (hx : c.bus.xfers = List.zipWith (goodAnswer sa) cmds vs ++ rest)
    (hr : rest.headD .never = .never) :
    ∃ crc : Byte, proc c = (.hung (.xfer sa cmd),
      { bus := { c.bus with
          xfers := rest.tail
          log := c.bus.log ++ (cmds.take (vs.length + 1)).map (.xfer sa) }
        txnCrc := crc, staged := c.staged ++ vs }) := by
  obtain ⟨crc, next, hp⟩ := h c cmd rest hcmd hsa hx
  refine ⟨crc, ?_⟩
  rw [hp, transact_unanswered hr, andThen_hung]
  simp [BusPort.afterXfer, List.take_add_one, hcmd]

/-- The three reads of REFRESH (R160). -/
theorem refreshProc_reads (sa : Byte) (vs : List Half) :
    ReadsInOrder sa refreshBytes vs (refreshProc sa) := by
  have hb : refreshBytes =
      [mapCmd opcRam addrTa, mapCmd opcRam addrTobj1, mapCmd opcRam addrTobj2] := by decide
  rw [hb]
  exact readsInOrder_cons (by decide) fun _ _ _ =>
    readsInOrder_cons (by decide) fun _ _ _ =>
    readsInOrder_cons (by decide) fun _ _ _ => readsInOrder_nil

/-- The seven reads of SESSION_INIT (R155), when the stored address, if it is read, passes the
check. -/
theorem sessionInit_reads {mode : AddrCheckMode} {sa : Byte} {vs : List Half}
    (hst : ∀ st ∈ vs.head?, AddrCheckPasses mode st sa) :
    ReadsInOrder sa sessionInitBytes vs fun c =>
      andThen (readTxn sa opcEeprom addrStored c) fun stored c =>
        if addrOk mode stored sa then readDiagnostics sa stored c
        else (.err .addressMismatch, c) := by
  have hb : sessionInitBytes =
      [mapCmd opcEeprom addrStored, mapCmd opcEeprom addrChipId0, mapCmd opcEeprom addrChipId1,
        mapCmd opcEeprom addrChipId2, mapCmd opcEeprom addrChipId3,
        mapCmd opcEeprom addrEmissivity, mapCmd opcEeprom addrConfig] := by decide
  rw [hb]
  refine readsInOrder_cons (by decide) fun stored ws hvs => ?_
  have hok : addrOk mode stored sa = true := (addrOk_iff ..).2 (hst stored (by simp [hvs]))
  simp only [hok, if_true]
  exact readsInOrder_cons (by decide) fun _ _ _ =>
    readsInOrder_cons (by decide) fun _ _ _ =>
    readsInOrder_cons (by decide) fun _ _ _ =>
    readsInOrder_cons (by decide) fun _ _ _ =>
    readsInOrder_cons (by decide) fun _ _ _ =>
    readsInOrder_cons (by decide) fun _ _ _ => readsInOrder_nil

/-! ## Commands that stay pending -/

theorem bindPort_ok {sa : Byte} {c : Ctx} {brest : List BindAnswer}
    (hb : c.bus.binds = .ok :: brest) :
    bindPort sa c =
      (.ok (), { c with bus := { c.bus with binds := brest, log := c.bus.log ++ [.bind sa] } }) := by
  simp [bindPort, BusPort.askBind, hb]

theorem bindPort_unanswered {sa : Byte} {c : Ctx} (hb : c.bus.binds.headD .never = .never) :
    bindPort sa c = (.hung (.bind sa), { c with
      bus := { c.bus with binds := c.bus.binds.tail, log := c.bus.log ++ [.bind sa] } }) := by
  simp only [bindPort, BusPort.askBind, hb]

theorem encodeWord_sessionInit : encodeWord .sessionInit = 0x00000008#32 := by decide

theorem encodeWord_refresh : encodeWord .refresh = 0x00000009#32 := by decide

theorem exec_sessionInit_noSession {s : State} (hv : s.verified = false) :
    exec .sessionInit s = runCommand (encodeWord .sessionInit) s
      (sessionInitProc s.addrCheckMode s.slaveAddr) commitSessionInit := by
  simp [exec, execSessionInit, hv]

theorem exec_refresh_live {s : State} (hv : s.verified = true) :
    exec .refresh s =
      runCommand (encodeWord .refresh) s (refreshProc s.slaveAddr) commitRefresh :=
  requireSession_live hv _

theorem exec_readConfig_live {s : State} (hv : s.verified = true) :
    exec .readConfig s = runCommand (encodeWord .readConfig) s
      (readTxn s.slaveAddr opcEeprom addrConfig) commitReadConfig :=
  requireSession_live hv _

/-- Settles O10: the bind, then each sequence of reads stopped at its next transfer. -/
theorem unansweredCommandStaysPending : Obligations.UnansweredCommandStaysPending := by
  refine ⟨fun s hv hb => ?bind, fun s vs cmd brest rest hv hsa hb hcmd hst hx hr => ?sessionInit,
    fun s vs cmd rest hv hsa hcmd hx hr => ?refresh, fun s hv hx => ?readConfig⟩
  case bind =>
    have hp : sessionInitProc s.addrCheckMode s.slaveAddr (Ctx.start s) = _ :=
      congrArg (andThen · _) (bindPort_unanswered hb)
    rw [exec_sessionInit_noSession hv, runCommand_hung hp]
    rfl
  case sessionInit =>
    obtain ⟨crc, hreads⟩ := (sessionInit_reads hst).hung
      (c := { Ctx.start s with bus :=
        { s.bus with binds := brest, log := s.bus.log ++ [.bind s.slaveAddr] } }) hcmd hsa hx hr
    have hp : sessionInitProc s.addrCheckMode s.slaveAddr (Ctx.start s) = _ :=
      (congrArg (andThen · _) (bindPort_ok hb)).trans hreads
    rw [exec_sessionInit_noSession hv, runCommand_hung hp]
    simp [State.hang, State.withBus, Ctx.start, sessionInitRequests, encodeWord_sessionInit]
  case refresh =>
    obtain ⟨crc, hp⟩ := (refreshProc_reads s.slaveAddr vs).hung (c := Ctx.start s) hcmd hsa hx hr
    rw [exec_refresh_live hv, runCommand_hung hp]
    simp [State.hang, State.withBus, Ctx.start, refreshRequests, encodeWord_refresh]
  case readConfig =>
    have hp := transact_unanswered (sa := s.slaveAddr) (cmd := mapCmd opcEeprom addrConfig)
      (c := Ctx.start s) hx
    rw [exec_readConfig_live hv, runCommand_hung ((readTxn_legal (by decide) ..).trans hp)]
    rfl

end Sys2Proof.Machine

/-! PROOF. What a step can leave, and the invariants of R29 along every step: O49, O50, O57. -/

namespace Sys2Proof.Machine

/-! ## The inversion of a step -/

/-- The states a step can leave, from `s`: `Effect` says what the command of a CMD write or of a
sequencer start does, and here is what the step adds to it. -/
inductive StepEffect (s : State) : State → Prop
  | waits : StepEffect s s
  | blockReset (rest : List Input) (hi : s.inputs = .blockReset :: rest) :
      StepEffect s (s.withInputs rest).blockReset
  | answered (a : HostAccess) (rest : List Input) (r : HostResponse) (hp : s.pending = none)
      (hi : s.inputs = .access a :: rest) : StepEffect s ((s.withInputs rest).respond r)
  | written (r : HostReg) (v : Word) (rest : List Input) (hp : s.pending = none)
      (hi : s.inputs = .access (.store r v) :: rest) (hr : r ≠ .cmd) :
      StepEffect s ((regWrite r v (s.withInputs rest)).respond .writeDone)
  | completed (w : Word) (rest : List Input) (u : State) (hp : s.pending = none)
      (hi : s.inputs = .access (.store .cmd w) :: rest)
      (he : exec (decodeWord w) (s.withInputs rest) = .next u) (hu : u.pending = none) :
      StepEffect s (u.respond .writeDone)
  | stalled (w : Word) (rest : List Input) (u : State) (p : Pending) (hp : s.pending = none)
      (hi : s.inputs = .access (.store .cmd w) :: rest)
      (he : exec (decodeWord w) (s.withInputs rest) = .next u) (hu : u.pending = some p) :
      StepEffect s (u.hang { p with word := w })
  | sequenced (c : Byte) (i : Instr) (rest : List Input) (t : State) (hp : s.pending = none)
      (hi : s.inputs = .sequence c :: rest) (hd : decodeSensorByte c = .ok i)
      (he : exec i (s.withInputs rest) = .next t) : StepEffect s t

/-- An aligned offset inside the window is the offset of the register that lies there (R22). -/
theorem HostReg.offset_atOffset {k : Nat} (h : k < 16) :
    (HostReg.atOffset (4 * k)).offset = 4 * k := by
  revert k; decide

/-- R56 admits an access only at the offset of the register it names. -/
theorem HostAccess.off_eq_of_admitted {a : HostAccess} (h : a.admitted = true) :
    a.off = a.reg.offset := by
  simp only [admitted, Bool.and_eq_true, decide_eq_true_eq] at h
  obtain ⟨⟨⟨-, haligned⟩, hlow⟩, hhigh⟩ := h
  obtain ⟨k, hk⟩ : ∃ k : Nat, a.off = 4 * k := ⟨a.off.toNat / 4, by omega⟩
  have hoff : a.off.toNat = 4 * k := by omega
  rw [HostAccess.reg, hoff, HostReg.offset_atOffset (by omega)]
  omega

/-- A write that R56 admits is the 32-bit store to the register it names. -/
theorem HostAccess.eq_store_of_admitted {a : HostAccess} (h : a.admitted = true)
    (hk : a.kind = .write) : a = .store a.reg a.value := by
  have hwidth : a.width = 4 := by simp_all [admitted]
  have hoff := off_eq_of_admitted h
  rw [HostAccess.store, ← hoff, ← hk, ← hwidth]

/-- A sequencer start that answers a next state ran the instruction of its byte. -/
theorem startSequence_next {c : Byte} {s t : State} (h : startSequence c s = .next t) :
    ∃ i, decodeSensorByte c = .ok i ∧ exec i s = .next t := by
  unfold startSequence at h
  split at h
  · next i hd => exact ⟨i, hd, h⟩
  · cases h

/-- What a host access can leave. -/
theorem hostAccess_effect {a : HostAccess} {s t : State} {rest : List Input}
    (hp : s.pending = none) (hi : s.inputs = .access a :: rest)
    (h : hostAccess a (s.withInputs rest) = .next t) : StepEffect s t := by
  rcases hostAccess_cases a (s.withInputs rest) with
    ⟨-, he⟩ | ⟨-, -, he⟩ | ⟨ha, hk, hr, he⟩ | ⟨ha, hk, hr, he⟩ <;> rw [he] at h
  · cases h; exact .answered a rest _ hp hi
  · cases h; exact .answered a rest _ hp hi
  · rw [HostAccess.eq_store_of_admitted ha hk, hr] at hi
    obtain ⟨u, hu⟩ := everyInstructionAnswersANextState (decodeWord a.value) (s.withInputs rest)
    rcases issue_next hu with ⟨hn, hw⟩ | ⟨p, hs, hw⟩ <;> rw [hw] at h <;> cases h
    · exact .completed a.value rest u hp hi hu hn
    · exact .stalled a.value rest u p hp hi hu hs
  · rw [HostAccess.eq_store_of_admitted ha hk] at hi
    cases h; exact .written a.reg a.value rest hp hi hr

/-- Everything a step to a next state can leave. -/
theorem step_effect {s t : State} (h : step s = .next t) : StepEffect s t := by
  rcases step_cases s with he | ⟨rest, hi, he⟩ | ⟨a, rest, hp, hi, he⟩ | ⟨c, rest, hp, hi, he⟩ <;>
    rw [he] at h
  · cases h; exact .waits
  · cases h; exact .blockReset rest hi
  · exact hostAccess_effect hp hi h
  · obtain ⟨i, hd, hx⟩ := startSequence_next h
    exact .sequenced c i rest t hp hi hd hx

/-! ## The invariants of R29 -/

/-- The converter's value as an integer (R150). -/
theorem convTemp_toInt (raw : Half) : (convTemp raw).toInt = 2 * (raw.toNat : Int) - 27315 := by
  have hraw := raw.isLt
  exact BitVec.toInt_ofInt_eq_self (by decide) (by omega) (by omega)

/-- The converter stays inside its range (R152). -/
theorem convTemp_inRange (raw : Half) : TempInRange (convTemp raw) := by
  have hraw := raw.isLt
  rw [TempInRange, convTemp_toInt]
  omega

/-- A state without session and without temperatures has the invariants. -/
theorem sessionInvariant_of_closed {s : State} (hv : s.verified = false)
    (ht : s.tempValid = false) (ha : s.tempTa = Config.sentinel)
    (h1 : s.tempTobj1 = Config.sentinel) (h2 : s.tempTobj2 = Config.sentinel) :
    s.SessionInvariant :=
  ⟨by simp [ht], fun _ => ⟨ha, h1, h2⟩, by simp [ht], by simp [hv]⟩

theorem blockReset_sessionInvariant (s : State) : s.blockReset.SessionInvariant :=
  sessionInvariant_of_closed rfl rfl rfl rfl rfl

/-- Every instruction keeps the invariants: SESSION_CLOSE ends them all, SESSION_INIT commits only
for a 7-bit address (R126), REFRESH commits only in a session and only values of the converter, and
nothing else touches what they speak of. -/
theorem exec_keeps_sessionInvariant {i : Instr} {s t : State} (hs : s.SessionInvariant)
    (h : exec i s = .next t) : t.SessionInvariant := by
  obtain ⟨hlive, hsentinel, hrange, haddr⟩ := hs
  cases exec_effect h with
  | sessionClose => exact sessionInvariant_of_closed rfl rfl rfl rfl rfl
  | sessionInit d bus crc hv ha => exact ⟨fun _ => rfl, hsentinel, hrange, fun _ => ha⟩
  | refresh r bus crc hv =>
    exact ⟨fun _ => hv, nofun,
      fun _ => ⟨convTemp_inRange _, convTemp_inRange _, convTemp_inRange _⟩, haddr⟩
  | _ => exact ⟨hlive, hsentinel, hrange, haddr⟩

/-- A host write keeps the invariants: SLAVE_ADDR takes it only while no session is live (R26). -/
theorem regWrite_keeps_sessionInvariant {s : State} (r : HostReg) (v : Word)
    (hs : s.SessionInvariant) : (regWrite r v s).SessionInvariant := by
  rcases regWrite_cases r v s with he | ⟨-, hv, he⟩ <;> rw [he]
  · exact hs
  · obtain ⟨hlive, hsentinel, hrange, -⟩ := hs
    exact ⟨hlive, hsentinel, hrange, by simp [hv]⟩

/-- Settles O49, along the states a step can leave. -/
theorem everyStepKeepsTheSessionInvariant : Obligations.EveryStepKeepsTheSessionInvariant := by
  refine ⟨fun s t hs h => ?keeps, fun s rest hi => ?reset⟩
  case reset => exact ⟨_, step_blockReset hi, blockReset_sessionInvariant _⟩
  case keeps =>
    have hs' (rest : List Input) : (s.withInputs rest).SessionInvariant := hs
    cases step_effect h with
    | waits => exact hs
    | blockReset rest => exact blockReset_sessionInvariant _
    | answered a rest r => exact hs
    | written r v rest => exact regWrite_keeps_sessionInvariant r v (hs' rest)
    | completed w rest u hp hi he =>
      have hu : u.SessionInvariant := exec_keeps_sessionInvariant (hs' rest) he
      exact hu
    | stalled w rest u p hp hi he =>
      have hu : u.SessionInvariant := exec_keeps_sessionInvariant (hs' rest) he
      exact hu
    | sequenced c i rest t hp hi hd he => exact exec_keeps_sessionInvariant (hs' rest) he

/-- Settles O50. -/
theorem resetHasTheInvariants : Obligations.ResetHasTheInvariants :=
  ⟨sessionInvariant_of_closed rfl rfl rfl rfl rfl, by decide, rfl⟩

/-! ## SLAVE_ADDR -/

/-- No instruction writes SLAVE_ADDR (R22, R26). -/
theorem exec_slaveAddr {i : Instr} {s t : State} (h : exec i s = .next t) :
    t.slaveAddr = s.slaveAddr := by
  cases exec_effect h <;> rfl

/-- Settles O57: of all a step can do, only block reset and a host write reach SLAVE_ADDR. -/
theorem slaveAddrIsFixedDuringASession : Obligations.SlaveAddrIsFixedDuringASession := by
  intro s t h hne
  cases step_effect h with
  | waits => exact absurd rfl hne
  | blockReset rest hi => exact .inl ⟨rest, hi⟩
  | answered a rest r => exact absurd rfl hne
  | written r v rest hp hi =>
    rcases regWrite_cases r v (s.withInputs rest) with he | ⟨rfl, hv, he⟩ <;> rw [he] at hne ⊢
    · exact absurd rfl hne
    · have hbyte : v.setWidth 8 = v.extractLsb' 0 8 := BitVec.setWidth_eq_extractLsb' (by decide)
      exact .inr ⟨hv, v, rest, hi, hbyte⟩
  | completed w rest u hp hi he => exact absurd (exec_slaveAddr he) hne
  | stalled w rest u p hp hi he => exact absurd (exec_slaveAddr he) hne
  | sequenced c i rest t hp hi hd he => exact absurd (exec_slaveAddr he) hne

end Sys2Proof.Machine

/-! PROOF. Which instruction writes which register, and the independence of CRC_ACC: O56, O58,
O59. -/

namespace Sys2Proof.Machine

/-! ## The writers of each register (R22) -/

section
variable {i : Instr} {s t : State}

theorem exec_addrCheckMode (h : exec i s = .next t) : t.addrCheckMode = s.addrCheckMode := by
  cases exec_effect h <;> rfl

theorem exec_verified (h : exec i s = .next t) :
    t.verified = s.verified ∨ (i = .sessionInit ∧ t.verified = true ∧ t.err = 0#4) ∨
      (i = .sessionClose ∧ t.verified = false) := by
  cases exec_effect h with
  | sessionInit => exact .inr (.inl ⟨rfl, rfl, rfl⟩)
  | sessionClose => exact .inr (.inr ⟨rfl, rfl⟩)
  | _ => exact .inl rfl

/-- The well-formed instructions that return a word are three of READ's names; the fourth has a
reserved OPC (R77). -/
theorem readsWord_cases (hw : i.wellFormed = true) (hr : readsWord i = true) :
    (∃ opc a, i = .read opc a) ∨ (∃ a, i = .readRam a) ∨ ∃ a, i = .readEeprom a := by
  cases i with
  | read opc a => exact .inl ⟨opc, a, rfl⟩
  | readRam a => exact .inr (.inl ⟨a, rfl⟩)
  | readEeprom a => exact .inr (.inr ⟨a, rfl⟩)
  | readReservedOpc opc a => simp_all [Instr.wellFormed, readsWord]
  | _ => cases hr

theorem exec_rdata (hw : i.wellFormed = true) (h : exec i s = .next t) :
    t.rdata = s.rdata ∨ (t.err = 0#4 ∧ (i = .readConfig ∨ (∃ opc a, i = .read opc a) ∨
      (∃ a, i = .readRam a) ∨ ∃ a, i = .readEeprom a)) := by
  cases exec_effect h with
  | readConfig => exact .inr ⟨rfl, .inl rfl⟩
  | read _ _ _ _ hr => exact .inr ⟨rfl, .inr (readsWord_cases hw hr)⟩
  | _ => exact .inl rfl

theorem exec_crcAcc (h : exec i s = .next t) :
    t.crcAcc = s.crcAcc ∨ (t.err = 0#4 ∧ (i = .crcReset ∨ (∃ b, i = .crcPutByte b) ∨
      ∃ a rw, i = .crcPutSa a rw)) := by
  cases exec_effect h with
  | crcReset => exact .inr ⟨rfl, .inl rfl⟩
  | crcPutByte b => exact .inr ⟨rfl, .inr (.inl ⟨b, rfl⟩)⟩
  | crcPutSa a rw => exact .inr ⟨rfl, .inr (.inr ⟨a, rw, rfl⟩)⟩
  | _ => exact .inl rfl

theorem exec_config (h : exec i s = .next t) :
    t.config = s.config ∨ (t.err = 0#4 ∧ (i = .readConfig ∨ i = .sessionInit)) := by
  cases exec_effect h with
  | readConfig => exact .inr ⟨rfl, .inl rfl⟩
  | sessionInit => exact .inr ⟨rfl, .inr rfl⟩
  | _ => exact .inl rfl

theorem exec_diagnostics (h : exec i s = .next t) :
    (t.emissivity = s.emissivity ∧ t.storedAddr = s.storedAddr ∧ t.chipId0 = s.chipId0 ∧
      t.chipId1 = s.chipId1 ∧ t.chipId2 = s.chipId2 ∧ t.chipId3 = s.chipId3) ∨
    (t.err = 0#4 ∧ i = .sessionInit) := by
  cases exec_effect h with
  | sessionInit => exact .inr ⟨rfl, rfl⟩
  | _ => exact .inl ⟨rfl, rfl, rfl, rfl, rfl, rfl⟩

theorem exec_temperatures (h : exec i s = .next t) :
    (t.tempTa = s.tempTa ∧ t.tempTobj1 = s.tempTobj1 ∧ t.tempTobj2 = s.tempTobj2 ∧
      t.tempValid = s.tempValid) ∨
    (t.err = 0#4 ∧ (i = .refresh ∨ i = .sessionClose)) := by
  cases exec_effect h with
  | refresh => exact .inr ⟨rfl, .inl rfl⟩
  | sessionClose => exact .inr ⟨rfl, .inr rfl⟩
  | _ => exact .inl ⟨rfl, rfl, rfl, rfl⟩

end

/-- Settles O58, register by register. -/
theorem registerWriters : Obligations.RegisterWriters := by
  intro i s t hw h
  refine ⟨exec_slaveAddr h, exec_addrCheckMode h, (exec_rdata hw h).resolve_left,
    (exec_crcAcc h).resolve_left, (exec_config h).resolve_left,
    fun hne => (exec_diagnostics h).resolve_left fun hkept => ?diagnostics,
    fun hne => (exec_temperatures h).resolve_left fun hkept => ?temperatures⟩
  case diagnostics => simp [hkept] at hne
  case temperatures => simp [hkept] at hne

/-- A SESSION_INIT that completes without error has committed: its other ends raise an error or
stay pending (R155, R156). -/
theorem sessionInit_completed {s t : State} (h : exec .sessionInit s = .next t)
    (herr : t.err = 0#4) (hp : t.pending = none) : t.verified = true := by
  cases exec_effect h with
  | sessionInit => rfl
  | error k => exact absurd herr k.code_ne_ok
  | pending p => cases hp
  | read _ _ _ _ hr => cases hr
  | transaction _ _ _ hf => cases hf

/-- Settles O56. -/
theorem sessionStateTransitions : Obligations.SessionStateTransitions := by
  refine ⟨fun i s t h h0 h1 => ?opens, fun i s t h h1 h0 => ?closes,
    fun s t h => sessionInit_completed h, fun s t h => ?close,
    fun s rest hi => ⟨_, step_blockReset hi, rfl⟩⟩
  case opens =>
    rcases exec_verified h with hv | ⟨hi, -, herr⟩ | ⟨-, hv⟩
    · simp [hv, h0] at h1
    · exact ⟨hi, herr⟩
    · simp [hv] at h1
  case closes =>
    rcases exec_verified h with hv | ⟨-, hv, -⟩ | ⟨hi, -⟩
    · simp [hv, h1] at h0
    · simp [hv] at h0
    · exact hi
  case close => cases h; rfl

/-! ## CRC_ACC is the CRC commands' own (R25, R125) -/

/-- The state with another CRC_ACC. -/
def State.withCrcAcc (c : Byte) (s : State) : State := { s with crcAcc := c }

/-- An outcome with another CRC_ACC in its next state, if it has one. -/
def nextWithCrcAcc (c : Byte) : StepOutcome → StepOutcome
  | .next t => .next (t.withCrcAcc c)
  | .fault r => .fault r
  | .refused r => .refused r

section
variable (c : Byte) (s : State)

/-- A command over the bus ignores CRC_ACC when what it commits does. -/
theorem runCommand_withCrcAcc {α : Type} (w : Word) (proc : Ctx → Res α × Ctx)
    {commit : α → State → State}
    (hc : ∀ v s, commit v (s.withCrcAcc c) = (commit v s).withCrcAcc c) :
    runCommand w (s.withCrcAcc c) proc commit = nextWithCrcAcc c (runCommand w s proc commit) := by
  have hstart : Ctx.start (s.withCrcAcc c) = Ctx.start s := rfl
  unfold runCommand
  rw [hstart]
  rcases proc (Ctx.start s) with ⟨v | k | r, d⟩
  · exact congrArg (fun u : State => (Host.Outcome.next u.complete : StepOutcome))
      (hc v { s with bus := d.bus, txnCrc := d.txnCrc })
  · rfl
  · rfl

theorem requireSession_withCrcAcc {body body' : StepOutcome} (hb : body' = nextWithCrcAcc c body) :
    requireSession (s.withCrcAcc c) body' = nextWithCrcAcc c (requireSession s body) := by
  rcases requireSession_cases s body with ⟨hv, he⟩ | ⟨hv, he⟩ <;> rw [he]
  · rw [← hb]; exact requireSession_live (s := s.withCrcAcc c) hv body'
  · simp [requireSession, State.withCrcAcc, hv, nextWithCrcAcc, State.raise]

theorem readCommand_withCrcAcc (w : Word) (opc : BitVec 3) (a : Byte) :
    readCommand w opc a (s.withCrcAcc c) = nextWithCrcAcc c (readCommand w opc a s) := by
  unfold readCommand
  split
  · exact runCommand_withCrcAcc c s w _ fun _ _ => rfl
  · rfl

theorem runTransaction_withCrcAcc (cmd : Byte) :
    runTransaction cmd (s.withCrcAcc c) = nextWithCrcAcc c (runTransaction cmd s) := by
  have hrun : transact (s.withCrcAcc c).slaveAddr cmd (Ctx.start (s.withCrcAcc c)) =
      transact s.slaveAddr cmd (Ctx.start s) := rfl
  unfold runTransaction
  rw [hrun]
  rcases transact s.slaveAddr cmd (Ctx.start s) with ⟨v | k | r, d⟩ <;> rfl

/-- Every instruction but the CRC commands runs alike whatever CRC_ACC holds. -/
theorem exec_withCrcAcc {i : Instr} (hreset : i ≠ .crcReset) (hbyte : ∀ b, i ≠ .crcPutByte b)
    (hsa : ∀ a rw, i ≠ .crcPutSa a rw) :
    exec i (s.withCrcAcc c) = nextWithCrcAcc c (exec i s) := by
  cases i with
  | crcReset => exact absurd rfl hreset
  | crcPutByte b => exact absurd rfl (hbyte b)
  | crcPutSa a rw => exact absurd rfl (hsa a rw)
  | nop | readFlags | writeEeprom | sessionClose => rfl
  | reservedB | reservedC | reservedD | reservedE | reservedF => rfl
  | read | readReservedOpc =>
    exact requireSession_withCrcAcc c s (readCommand_withCrcAcc ..)
  | readRam | readEeprom | readConfig | refresh =>
    exact requireSession_withCrcAcc c s (runCommand_withCrcAcc c s _ _ fun _ _ => rfl)
  | sessionInit =>
    cases hv : s.verified
    · rw [exec_sessionInit_noSession hv, exec_sessionInit_noSession (s := s.withCrcAcc c) hv]
      exact runCommand_withCrcAcc c s _ _ fun _ _ => rfl
    · simp [exec, execSessionInit, State.withCrcAcc, hv, nextWithCrcAcc, State.raise]
  | smbusRamRead | smbusEepromRead => exact runTransaction_withCrcAcc ..

end

/-- Settles O59. -/
theorem otherCommandsIgnoreCrcAcc : Obligations.OtherCommandsIgnoreCrcAcc := by
  intro i s t c hreset hbyte hsa h
  refine ⟨(exec_crcAcc h).resolve_right ?kept, ?alike⟩
  case kept =>
    rintro ⟨-, hi | ⟨b, hi⟩ | ⟨a, rw, hi⟩⟩
    · exact hreset hi
    · exact hbyte b hi
    · exact hsa a rw hi
  case alike =>
    exact (exec_withCrcAcc c s hreset hbyte hsa).trans (congrArg (nextWithCrcAcc c) h)

end Sys2Proof.Machine

/-! PROOF. The host window and the fields of CONFIG: O47, O48. -/

namespace Sys2Proof.Machine

/-! ## STATUS, field by field (R24) -/

section
variable (s : State)

theorem statusWord_err : (statusWord s).extractLsb' 0 4 = s.err := by
  rw [statusWord, BitVec.extractLsb'_append_eq_of_add_le (by decide), BitVec.extractLsb'_eq_self]

theorem statusWord_reserved_low : (statusWord s).extractLsb' 4 4 = 0#4 := by
  rw [statusWord, BitVec.extractLsb'_append_eq_of_le (by decide),
    BitVec.extractLsb'_append_eq_of_add_le (by decide), BitVec.extractLsb'_eq_self]

theorem statusWord_verified : (statusWord s).getLsbD 8 = s.verified := by
  simp only [statusWord, BitVec.getLsbD_append]
  simp

theorem statusWord_tempValid : (statusWord s).getLsbD 9 = s.tempValid := by
  simp only [statusWord, BitVec.getLsbD_append]
  simp

theorem statusWord_reserved_high : (statusWord s).extractLsb' 10 22 = 0#22 := by
  rw [statusWord, BitVec.extractLsb'_append_eq_of_le (by decide),
    BitVec.extractLsb'_append_eq_of_le (by decide), BitVec.extractLsb'_append_eq_of_le (by decide),
    BitVec.extractLsb'_append_eq_of_le (by decide), BitVec.extractLsb'_eq_self]

end

/-! ## Registers narrower than the window's words -/

/-- A byte register reads with bits 31:8 zero. -/
theorem byte_zeroExtended (b : Byte) : b.setWidth 32 = 0#24 ++ b :=
  BitVec.setWidth_eq_append (by decide)

/-- A sensor word reads with bits 31:16 zero. -/
theorem half_zeroExtended (v : Half) : v.setWidth 32 = 0#16 ++ v :=
  BitVec.setWidth_eq_append (by decide)

/-- Settles O47: the fields of STATUS, then each register of the window. -/
theorem registerMapReads : Obligations.RegisterMapReads := fun s =>
  ⟨rfl, statusWord_err s, statusWord_reserved_low s, statusWord_verified s, statusWord_tempValid s,
    statusWord_reserved_high s, byte_zeroExtended _, half_zeroExtended _, byte_zeroExtended _,
    rfl, rfl, rfl, half_zeroExtended _, half_zeroExtended _, half_zeroExtended _,
    half_zeroExtended _, half_zeroExtended _, half_zeroExtended _, half_zeroExtended _, rfl⟩

/-! ## CONFIG (R30) -/

/-- The nine fields side by side: each begins where the one below it ends, so they join, one after
the other, into the whole word. -/
theorem configFields_append (c : Half) :
    configTestEn c ++ configKt2Sign c ++ configGain c ++ configFir c ++ configKsSign c ++
      configSensorMode c ++ configRsvd c ++ configRepeatTest c ++ configIir c = c := by
  simp only [configTestEn, configKt2Sign, configGain, configFir, configKsSign, configSensorMode,
    configRsvd, configRepeatTest, configIir]
  iterate 8 rw [BitVec.extractLsb'_append_extractLsb'_eq_extractLsb' (by decide)]
  exact BitVec.extractLsb'_eq_self

/-- Settles O48. -/
theorem configFieldsPartitionTheWord : Obligations.ConfigFieldsPartitionTheWord :=
  ⟨configFields_append, by decide⟩

end Sys2Proof.Machine

/-! PROOF. What a command depends on, and the accesses of the host port: O60, O45, O46. -/

namespace Sys2Proof.Machine

/-! ## Procedures answer alike whatever TXN_CRC holds (R124, R125)

A procedure reads the bus port and the words staged so far. TXN_CRC is only written: each
transaction starts it afresh. -/

/-- The context with another TXN_CRC. -/
def Ctx.withTxnCrc (x : Byte) (c : Ctx) : Ctx := { c with txnCrc := x }

/-- Another TXN_CRC at its start changes no answer of the procedure, no request it makes and no word
it stages: it can change the final TXN_CRC alone. -/
def AnswersAlike {α : Type} (proc : Ctx → Res α × Ctx) : Prop :=
  ∀ c x, ∃ y, proc (c.withTxnCrc x) = ((proc c).1, (proc c).2.withTxnCrc y)

theorem answersAlike_ok {α : Type} (v : α) : AnswersAlike fun c => (.ok v, c) :=
  fun _ x => ⟨x, rfl⟩

theorem answersAlike_err {α : Type} (k : ErrKind) :
    AnswersAlike (α := α) fun c => (.err k, c) :=
  fun _ x => ⟨x, rfl⟩

theorem answersAlike_andThen {α β : Type} {p : Ctx → Res α × Ctx} {f : α → Ctx → Res β × Ctx}
    (hp : AnswersAlike p) (hf : ∀ v, AnswersAlike (f v)) :
    AnswersAlike fun c => andThen (p c) f := by
  intro c x
  obtain ⟨y, hy⟩ := hp c x
  dsimp only
  rw [hy]
  rcases p c with ⟨v | k | q, d⟩
  · exact hf v d y
  · exact ⟨y, rfl⟩
  · exact ⟨y, rfl⟩

theorem bindPort_answersAlike (sa : Byte) : AnswersAlike (bindPort sa) := by
  intro c x
  refine ⟨x, ?_⟩
  simp only [bindPort, BusPort.askBind, Ctx.withTxnCrc]
  cases c.bus.binds.headD .never <;> rfl

theorem transact_answersAlike (sa cmd : Byte) : AnswersAlike (transact sa cmd) := by
  intro c x
  simp only [transact, BusPort.askXfer, Ctx.withTxnCrc]
  cases c.bus.xfers.headD .never with
  | fail | never => exact ⟨x, rfl⟩
  | ok b0 b1 b2 =>
    dsimp only
    cases pec sa cmd b0 b1 with
    | error k => exact ⟨crcInit, rfl⟩
    | ok q => exact ⟨q, by dsimp only; split <;> rfl⟩

theorem readTxn_answersAlike (sa : Byte) (opc : BitVec 3) (a : Byte) :
    AnswersAlike (readTxn sa opc a) := by
  unfold readTxn
  split
  · exact transact_answersAlike sa _
  · exact answersAlike_err _

theorem readDiagnostics_answersAlike (sa : Byte) (stored : Half) :
    AnswersAlike (readDiagnostics sa stored) :=
  answersAlike_andThen (readTxn_answersAlike _ _ _) fun _ =>
  answersAlike_andThen (readTxn_answersAlike _ _ _) fun _ =>
  answersAlike_andThen (readTxn_answersAlike _ _ _) fun _ =>
  answersAlike_andThen (readTxn_answersAlike _ _ _) fun _ =>
  answersAlike_andThen (readTxn_answersAlike _ _ _) fun _ =>
  answersAlike_andThen (readTxn_answersAlike _ _ _) fun _ => answersAlike_ok _

theorem sessionInitProc_answersAlike (mode : AddrCheckMode) (sa : Byte) :
    AnswersAlike (sessionInitProc mode sa) :=
  answersAlike_andThen (bindPort_answersAlike sa) fun _ =>
  answersAlike_andThen (readTxn_answersAlike _ _ _) fun stored => by
    split
    · exact readDiagnostics_answersAlike sa stored
    · exact answersAlike_err _

theorem refreshProc_answersAlike (sa : Byte) : AnswersAlike (refreshProc sa) :=
  answersAlike_andThen (readTxn_answersAlike _ _ _) fun _ =>
  answersAlike_andThen (readTxn_answersAlike _ _ _) fun _ =>
  answersAlike_andThen (readTxn_answersAlike _ _ _) fun _ => answersAlike_ok _

/-! ## Commands end alike (R37, R65) -/

/-- Two states that agree on all a command depends on. -/
structure State.AgreeOnSessionAndBus (s s' : State) : Prop where
  verified : s.verified = s'.verified
  slaveAddr : s.slaveAddr = s'.slaveAddr
  bus : s.bus = s'.bus
  addrCheckMode : s.addrCheckMode = s'.addrCheckMode

/-- The pairs of outcomes of one instruction, run from `s` and from `s'`, that are alike: both end,
a command with one ERR for both and a sensor command with ERR kept; or both stay pending with one
pending command. -/
inductive EndAlike (s s' : State) : Format → StepOutcome → StepOutcome → Prop
  | ended (t t' : State) (hv : t.verified = t'.verified) (hb : t.bus = t'.bus)
      (hp : t.pending = s.pending) (hp' : t'.pending = s'.pending) (he : t.err = t'.err) :
      EndAlike s s' .hostCmd (.next t) (.next t')
  | transacted (t t' : State) (hv : t.verified = t'.verified) (hb : t.bus = t'.bus)
      (hp : t.pending = s.pending) (hp' : t'.pending = s'.pending)
      (he : t.err = s.err) (he' : t'.err = s'.err) :
      EndAlike s s' .smbusCmd (.next t) (.next t')
  | stalled (f : Format) (p : Pending) (t t' : State) (hv : t.verified = t'.verified)
      (hb : t.bus = t'.bus) (hp : t.pending = some p) (hp' : t'.pending = some p)
      (he : t.err = s.err) (he' : t'.err = s'.err) :
      EndAlike s s' f (.next t) (.next t')

/-- What a successful command commits leaves the pending command alone; what it leaves on the bus
port and in VERIFIED depends on those alone. -/
structure CommitsAlike {α : Type} (commit : α → State → State) : Prop where
  bus : ∀ v s s', s.bus = s'.bus → (commit v s).bus = (commit v s').bus
  pending : ∀ v s, (commit v s).pending = s.pending
  verified : ∀ v s s', s.verified = s'.verified → (commit v s).verified = (commit v s').verified

theorem commitRead_alike : CommitsAlike commitRead :=
  ⟨fun _ _ _ hb => hb, fun _ _ => rfl, fun _ _ _ hv => hv⟩

theorem commitReadConfig_alike : CommitsAlike commitReadConfig :=
  ⟨fun _ _ _ hb => hb, fun _ _ => rfl, fun _ _ _ hv => hv⟩

theorem commitRefresh_alike : CommitsAlike commitRefresh :=
  ⟨fun _ _ _ hb => hb, fun _ _ => rfl, fun _ _ _ hv => hv⟩

theorem commitSessionInit_alike : CommitsAlike commitSessionInit :=
  ⟨fun _ _ _ hb => hb, fun _ _ => rfl, fun _ _ _ _ => rfl⟩

section
variable {s s' : State} (h : s.AgreeOnSessionAndBus s')
include h

/-- A command starts its procedure from contexts that differ in TXN_CRC alone. -/
theorem start_eq_withTxnCrc : Ctx.start s' = (Ctx.start s).withTxnCrc s'.txnCrc := by
  simp only [Ctx.start, Ctx.withTxnCrc, h.bus]

theorem raise_endAlike (k : ErrKind) :
    EndAlike s s' .hostCmd (.next (s.raise k)) (.next (s'.raise k)) :=
  .ended _ _ h.verified h.bus rfl rfl rfl

theorem requireSession_endAlike {body body' : StepOutcome}
    (hbody : EndAlike s s' .hostCmd body body') :
    EndAlike s s' .hostCmd (requireSession s body) (requireSession s' body') := by
  unfold requireSession
  rw [← h.verified]
  split
  · exact hbody
  · exact raise_endAlike h _

theorem runCommand_endAlike {α : Type} (w : Word) {proc proc' : Ctx → Res α × Ctx}
    {commit : α → State → State} (hsame : proc = proc') (hproc : AnswersAlike proc')
    (hcommit : CommitsAlike commit) :
    EndAlike s s' .hostCmd (runCommand w s proc commit) (runCommand w s' proc' commit) := by
  subst hsame
  obtain ⟨y, hy⟩ := hproc (Ctx.start s) s'.txnCrc
  unfold runCommand
  rw [start_eq_withTxnCrc h, hy]
  rcases proc (Ctx.start s) with ⟨v | k | q, c⟩
  · exact .ended _ _ (hcommit.verified v _ _ h.verified)
      (hcommit.bus v _ _ rfl)
      (hcommit.pending v _) (hcommit.pending v _) rfl
  · exact .ended _ _ h.verified rfl rfl rfl rfl
  · exact .stalled _ _ _ _ h.verified rfl rfl rfl rfl rfl

theorem readCommand_endAlike (w : Word) (opc : BitVec 3) (a : Byte) :
    EndAlike s s' .hostCmd (readCommand w opc a s) (readCommand w opc a s') := by
  unfold readCommand
  split
  · exact runCommand_endAlike h w (by rw [h.slaveAddr]) (readTxn_answersAlike _ _ _)
      commitRead_alike
  · exact raise_endAlike h _

theorem runTransaction_endAlike (cmd : Byte) :
    EndAlike s s' .smbusCmd (runTransaction cmd s) (runTransaction cmd s') := by
  obtain ⟨y, hy⟩ := transact_answersAlike s.slaveAddr cmd (Ctx.start s) s'.txnCrc
  unfold runTransaction
  rw [start_eq_withTxnCrc h, ← h.slaveAddr, hy]
  rcases transact s.slaveAddr cmd (Ctx.start s) with ⟨v | k | q, c⟩
  · exact .transacted _ _ h.verified rfl rfl rfl rfl rfl
  · exact .transacted _ _ h.verified rfl rfl rfl rfl rfl
  · exact .stalled _ _ _ _ h.verified rfl rfl rfl rfl rfl

theorem crcPutSa_endAlike (a : Byte) (rw : Bool) :
    EndAlike s s' .hostCmd (execCrcPutSa a rw s) (execCrcPutSa a rw s') := by
  unfold execCrcPutSa crcPutSA
  cases slaveAddrIllegal a
  · exact .ended _ _ h.verified h.bus rfl rfl rfl
  · exact raise_endAlike h .invalidAddress

/-- SESSION_INIT's session check is the reverse of the other commands' (R155). -/
theorem sessionInit_endAlike :
    EndAlike s s' .hostCmd (execSessionInit s) (execSessionInit s') := by
  unfold execSessionInit
  rw [← h.verified]
  split
  · exact raise_endAlike h _
  · exact runCommand_endAlike h _ (by rw [h.addrCheckMode, h.slaveAddr])
      (sessionInitProc_answersAlike _ _) commitSessionInit_alike

/-- Every instruction ends alike from two states that agree on the session and the bus. -/
theorem exec_endAlike (i : Instr) : EndAlike s s' i.format (exec i s) (exec i s') := by
  cases i with
  | nop | crcReset | crcPutByte => exact .ended _ _ h.verified h.bus rfl rfl rfl
  | sessionClose => exact .ended _ _ rfl h.bus rfl rfl rfl
  | crcPutSa a rw => exact crcPutSa_endAlike h a rw
  | readFlags | writeEeprom => exact raise_endAlike h _
  | reservedB | reservedC | reservedD | reservedE | reservedF => exact raise_endAlike h _
  | read | readReservedOpc => exact requireSession_endAlike h (readCommand_endAlike h ..)
  | readRam | readEeprom =>
    exact requireSession_endAlike h (runCommand_endAlike h _ (by rw [h.slaveAddr])
      (readTxn_answersAlike _ _ _) commitRead_alike)
  | readConfig =>
    exact requireSession_endAlike h (runCommand_endAlike h _ (by rw [h.slaveAddr])
      (readTxn_answersAlike _ _ _) commitReadConfig_alike)
  | refresh =>
    exact requireSession_endAlike h (runCommand_endAlike h _ (by rw [h.slaveAddr])
      (refreshProc_answersAlike _) commitRefresh_alike)
  | sessionInit => exact sessionInit_endAlike h
  | smbusRamRead | smbusEepromRead => exact runTransaction_endAlike h _

end

/-- Settles O60. -/
theorem commandsDependOnlyOnSessionAndBus : Obligations.CommandsDependOnlyOnSessionAndBus := by
  intro i s s' t t' hv hsa hb hm ht ht'
  have hend := exec_endAlike ⟨hv, hsa, hb, hm⟩ i
  rw [ht, ht'] at hend
  generalize i.format = f at hend ⊢
  cases hend with
  | ended _ _ hv hb hp hp' he => exact ⟨hv, hb, .inl ⟨hp, hp', fun _ => he, nofun⟩⟩
  | transacted _ _ hv hb hp hp' he he' => exact ⟨hv, hb, .inl ⟨hp, hp', nofun, fun _ => ⟨he, he'⟩⟩⟩
  | stalled _ p _ _ hv hb hp hp' he he' => exact ⟨hv, hb, .inr ⟨⟨p, hp, hp'⟩, he, he'⟩⟩

/-! ## Host accesses (R56, R57) -/

section
variable (s : State)

/-- The input queue is in no register. -/
theorem regRead_withInputs (r : HostReg) (rest : List Input) :
    regRead r (s.withInputs rest) = regRead r s := by
  cases r <;> rfl

/-- What the host port has answered is in no register. -/
theorem regRead_respond (r : HostReg) (x : HostResponse) :
    regRead r (s.respond x) = regRead r s := by
  cases r <;> rfl

theorem regWrite_slaveAddr_noSession (v : Word) (hv : s.verified = false) :
    regWrite .slaveAddr v s = { s with slaveAddr := v.extractLsb' 0 8 } := by
  have hbyte : v.setWidth 8 = v.extractLsb' 0 8 := BitVec.setWidth_eq_extractLsb' (by decide)
  simp [regWrite, hv, hbyte]

/-- A write is ignored in a session, and by every register but SLAVE_ADDR (R26, R57). -/
theorem regWrite_ignored (r : HostReg) (v : Word) (h : s.verified = true ∨ r ≠ .slaveAddr) :
    regWrite r v s = s := by
  rcases regWrite_cases r v s with he | ⟨hr, hv, -⟩
  · exact he
  · simp [hr, hv] at h

theorem regWrite_hostOut (r : HostReg) (v : Word) : (regWrite r v s).hostOut = s.hostOut := by
  rcases regWrite_cases r v s with he | ⟨-, -, he⟩ <;> rw [he]

theorem HostAccess.admitted_iff (a : HostAccess) :
    a.admitted = true ↔ a.width = 4 ∧ a.off % 4 = 0 ∧ 0 ≤ a.off ∧ a.off ≤ 0x3C := by
  simp [admitted, and_assoc]

theorem hostAccess_refused {a : HostAccess} (ha : a.admitted = false) :
    hostAccess a s = .next (s.respond .busError) := by
  simp [hostAccess, ha]

theorem hostAccess_read {a : HostAccess} (ha : a.admitted = true) (hk : a.kind = .read) :
    hostAccess a s = .next (s.respond (.readData (regRead a.reg s))) := by
  simp [hostAccess, ha, hk]

end

/-- Settles O45, one kind of access after the other. -/
theorem onlyCmdWritesHaveSideEffects : Obligations.OnlyCmdWritesHaveSideEffects := by
  intro s r v rest hp
  refine ⟨fun hi => ?load, fun hi hv => ?freeAddr, fun hi hv => ?lockedAddr, fun hi => ?command,
    fun hi hcmd haddr => ?otherRegister⟩
  case load =>
    refine ⟨(s.withInputs rest).respond (.readData (regRead r s)), ?_,
      fun r' => (regRead_respond ..).trans (regRead_withInputs ..), rfl⟩
    rw [step_access hp hi, hostAccess_load, regRead_withInputs]
  case freeAddr =>
    rw [step_access hp hi, hostAccess_store (by decide),
      regWrite_slaveAddr_noSession (s.withInputs rest) v hv]
    rfl
  case lockedAddr =>
    rw [step_access hp hi, hostAccess_store (by decide),
      regWrite_ignored (s.withInputs rest) .slaveAddr v (.inl hv)]
    rfl
  case command =>
    obtain ⟨t, ht⟩ := everyInstructionAnswersANextState (decodeWord v) (s.withInputs rest)
    refine ⟨t, ht, fun hn => ?_⟩
    rw [step_access hp hi, hostAccess_store_cmd]
    rcases issue_next ht with ⟨-, h⟩ | ⟨p, hs, -⟩
    · exact h
    · cases hn.symm.trans hs
  case otherRegister =>
    rw [step_access hp hi, hostAccess_store hcmd,
      regWrite_ignored (s.withInputs rest) r v (.inr haddr)]
    rfl

/-- Settles O46: the four ways an access is refused are the failures of `HostAccess.admitted`, and
an admitted access lies at the offset of the register it names. -/
theorem otherAccessesAreHostBusErrors : Obligations.OtherAccessesAreHostBusErrors := by
  refine ⟨fun kind off width v => ?offset, fun s a rest hp hi => ⟨fun hbad => ?refused,
    fun hw hal hlo hhi => ?admitted⟩⟩
  case offset => simp [HostAccess.atAddress]
  case refused =>
    have ha : a.admitted = false := by
      rw [← Bool.not_eq_true, HostAccess.admitted_iff]; omega
    rw [step_access hp hi, hostAccess_refused _ ha]
    rfl
  case admitted =>
    have ha : a.admitted = true := a.admitted_iff.2 ⟨hw, hal, hlo, hhi⟩
    refine ⟨a.reg, HostAccess.off_eq_of_admitted ha, fun hk => ?read, fun hk hr => ?write⟩
    case read =>
      rw [step_access hp hi, hostAccess_read _ ha hk, regRead_withInputs]
      rfl
    case write =>
      rw [HostAccess.eq_store_of_admitted ha hk] at hi
      refine ⟨_, (step_access hp hi).trans (hostAccess_store hr a.value _), ?_⟩
      rw [State.respond_hostOut, regWrite_hostOut]
      rfl

end Sys2Proof.Machine

/-! PROOF. The fields of a command word, and decoding against encoding: O4, O5, O3. -/

namespace Sys2Proof

/-! ## The fields of a word put together (R70) -/

section
variable (code : BitVec 4) (arg : BitVec 8) (opc : BitVec 3) (rw : Bool)

@[simp] theorem codeOf_commandWord : codeOf (commandWord code arg opc rw) = code := by
  rw [codeOf, commandWord, BitVec.extractLsb'_append_eq_of_add_le (by decide),
    BitVec.extractLsb'_eq_self]

@[simp] theorem argOf_commandWord : argOf (commandWord code arg opc rw) = arg := by
  rw [argOf, commandWord, BitVec.extractLsb'_append_eq_of_le (by decide),
    BitVec.extractLsb'_append_eq_of_le (by decide),
    BitVec.extractLsb'_append_eq_of_add_le (by decide), BitVec.extractLsb'_eq_self]

@[simp] theorem opcOf_commandWord : opcOf (commandWord code arg opc rw) = opc := by
  rw [opcOf, commandWord, BitVec.extractLsb'_append_eq_of_le (by decide),
    BitVec.extractLsb'_append_eq_of_le (by decide), BitVec.extractLsb'_append_eq_of_le (by decide),
    BitVec.extractLsb'_append_eq_of_add_le (by decide), BitVec.extractLsb'_eq_self]

@[simp] theorem rwOf_commandWord : rwOf (commandWord code arg opc rw) = rw := by
  simp only [rwOf, commandWord, BitVec.getLsbD_append]
  simp

theorem commandWord_reserved_low : (commandWord code arg opc rw).extractLsb' 4 4 = 0#4 := by
  rw [commandWord, BitVec.extractLsb'_append_eq_of_le (by decide),
    BitVec.extractLsb'_append_eq_of_add_le (by decide), BitVec.extractLsb'_eq_self]

theorem commandWord_reserved_high : (commandWord code arg opc rw).extractLsb' 20 12 = 0#12 := by
  rw [commandWord, BitVec.extractLsb'_append_eq_of_le (by decide),
    BitVec.extractLsb'_append_eq_of_le (by decide), BitVec.extractLsb'_append_eq_of_le (by decide),
    BitVec.extractLsb'_append_eq_of_le (by decide), BitVec.extractLsb'_append_eq_of_le (by decide),
    BitVec.extractLsb'_eq_self]

end

/-! ## Masks and fields -/

section
variable (w m : Word)

@[simp] theorem codeOf_and : codeOf (w &&& m) = codeOf w &&& codeOf m := BitVec.extractLsb'_and

@[simp] theorem argOf_and : argOf (w &&& m) = argOf w &&& argOf m := BitVec.extractLsb'_and

@[simp] theorem opcOf_and : opcOf (w &&& m) = opcOf w &&& opcOf m := BitVec.extractLsb'_and

@[simp] theorem rwOf_and : rwOf (w &&& m) = (rwOf w && rwOf m) := BitVec.getLsbD_and

end

/-- A word whose reserved bits are clear is its four fields put together. -/
theorem eq_commandWord_of_reserved_clear {w : Word} (hhigh : w.extractLsb' 20 12 = 0#12)
    (hlow : w.extractLsb' 4 4 = 0#4) :
    w = commandWord (codeOf w) (argOf w) (opcOf w) (rwOf w) := by
  have hrw : BitVec.ofBool (rwOf w) = w.extractLsb' 19 1 := by
    apply BitVec.eq_of_getLsbD_eq
    simp [rwOf]
  rw [commandWord, hrw, ← hhigh, ← hlow]
  simp only [opcOf, argOf, codeOf]
  iterate 5 rw [BitVec.extractLsb'_append_extractLsb'_eq_extractLsb' (by decide)]
  exact BitVec.extractLsb'_eq_self.symm

/-- A mask that keeps CODE and no reserved bit leaves CODE and the other fields masked. -/
theorem and_commandWord (w : Word) (arg : BitVec 8) (opc : BitVec 3) (rw : Bool) :
    w &&& commandWord 0xF#4 arg opc rw =
      commandWord (codeOf w) (argOf w &&& arg) (opcOf w &&& opc) (rwOf w && rw) := by
  rw [eq_commandWord_of_reserved_clear (w := w &&& _)
    (by rw [BitVec.extractLsb'_and, commandWord_reserved_high, BitVec.and_zero])
    (by rw [BitVec.extractLsb'_and, commandWord_reserved_low, BitVec.and_zero])]
  have hcode : codeOf w &&& 0xF#4 = codeOf w := BitVec.and_allOnes
  simp [hcode]

/-! ## Decoding what was encoded -/

theorem decodeBytes_encode_hostCmd {i : Instr} (hf : i.format = .hostCmd) :
    decodeBytes (encode i) = .ok (decodeWord (encodeWord i)) := by
  rw [encode, hf]
  exact Machine.decodeBytes_wordBytes _

/-- The decoder reads CODE and the operands back from the fields they were put into. -/
theorem decodeWord_encodeWord {i : Instr} (hf : i.format = .hostCmd) :
    decodeWord (encodeWord i) = i.canonical := by
  cases i with
  | nop | crcReset | readConfig | readFlags | sessionInit | refresh | sessionClose => rfl
  | reservedB | reservedC | reservedD | reservedE | reservedF => rfl
  | crcPutByte | writeEeprom | crcPutSa | read | readRam | readEeprom | readReservedOpc =>
    simp [encodeWord, decodeWord, Instr.canonical]
  | smbusRamRead | smbusEepromRead => cases hf

/-- Byte 0 of a zero-extended byte is that byte. -/
theorem wordByte_zero_setWidth (b : Byte) : wordByte (b.setWidth 32) 0 = b := by
  rw [wordByte, Nat.mul_zero, ← BitVec.setWidth_eq_extractLsb' (by decide),
    BitVec.setWidth_setWidth_of_le _ (by decide), BitVec.setWidth_eq]

@[simp] theorem sensorByte_opcode (opcode : BitVec 3) (address : BitVec 5) :
    (sensorByte opcode address).extractLsb' 5 3 = opcode := by
  rw [sensorByte, BitVec.extractLsb'_append_eq_of_le (by decide), BitVec.extractLsb'_eq_self]

@[simp] theorem sensorByte_address (opcode : BitVec 3) (address : BitVec 5) :
    (sensorByte opcode address).extractLsb' 0 5 = address := by
  rw [sensorByte, BitVec.extractLsb'_append_eq_of_add_le (by decide), BitVec.extractLsb'_eq_self]

/-- The one byte of each sensor command, read back by its space and its offset (R80). -/
theorem decodeBytes_encode_smbusCmd {i : Instr} (hf : i.format = .smbusCmd) :
    decodeBytes (encode i) = .ok i.canonical := by
  cases i with
  | smbusRamRead address | smbusEepromRead address =>
    simp [encode, hf, encodeWord, wordByte_zero_setWidth, decodeBytes, decodeSensorByte,
      Instr.canonical]
  | _ => cases hf

/-- Settles O4: a command word by its fields, a sensor command byte by its two. -/
theorem decodeEncodeAgree : Obligations.DecodeEncodeAgree := by
  intro i _
  cases hf : i.format with
  | hostCmd => rw [decodeBytes_encode_hostCmd hf, decodeWord_encodeWord hf]
  | smbusCmd => exact decodeBytes_encode_smbusCmd hf

/-! ## Encoding what was decoded -/

/-- The bits of ARG the decoder keeps: those of the four commands with an operand in it (R72,
log 11). -/
def keptArg (code : BitVec 4) : BitVec 8 :=
  if code = 2#4 ∨ code = 3#4 ∨ code = 4#4 ∨ code = 7#4 then BitVec.allOnes 8 else 0#8

/-- The bits of OPC the decoder keeps: READ's (R73). -/
def keptOpc (code : BitVec 4) : BitVec 3 := if code = 4#4 then BitVec.allOnes 3 else 0#3

/-- Whether the decoder keeps RW: for CRC_PUT_SA (R74). -/
def keptRw (code : BitVec 4) : Bool := code == 3#4

/-- The word with every bit cleared that the decoder does not keep. -/
def keptBits (w : Word) : Word :=
  commandWord (codeOf w) (argOf w &&& keptArg (codeOf w)) (opcOf w &&& keptOpc (codeOf w))
    (rwOf w && keptRw (codeOf w))

/-- The word of the decoded instruction, for each CODE, holds what the decoder kept. -/
theorem encodeWord_decodeWord (w : Word) : encodeWord (decodeWord w) = keptBits w := by
  have hlt := (codeOf w).isLt
  have hcode : codeOf w = BitVec.ofNat 4 (codeOf w).toNat := by simp
  have harg : argOf w &&& 255#8 = argOf w := BitVec.and_allOnes
  have hopc : opcOf w &&& 7#3 = opcOf w := BitVec.and_allOnes
  unfold decodeWord keptBits
  generalize (codeOf w).toNat = n at hcode hlt
  rw [hcode]
  interval_cases n <;> simp [encodeWord, keptArg, keptOpc, keptRw, harg, hopc]

/-- The masks of R95 keep CODE and what the decoder keeps of the other fields. -/
theorem usedBits_eq (code : BitVec 4) :
    (if code = 2#4 ∨ code = 7#4 then 0x0000FF0F#32
      else if code = 3#4 then 0x0008FF0F#32
      else if code = 4#4 then 0x0007FF0F#32
      else 0x0000000F#32) =
    commandWord 0xF#4 (keptArg code) (keptOpc code) (keptRw code) := by
  revert code; decide

/-- Settles O5. -/
theorem encodeDecodeKeepsUsedBits : Obligations.EncodeDecodeKeepsUsedBits := fun w =>
  calc encodeWord (decodeWord w)
    _ = keptBits w := encodeWord_decodeWord w
    _ = w &&& commandWord 0xF#4 (keptArg (codeOf w)) (keptOpc (codeOf w)) (keptRw (codeOf w)) :=
      (and_commandWord ..).symm
    _ = w &&& _ := congrArg (w &&& ·) (usedBits_eq (codeOf w)).symm

/-- Settles O3. -/
theorem workedEncodingsDecode : Obligations.WorkedEncodingsDecode := by
  unfold Obligations.WorkedEncodingsDecode
  decide

end Sys2Proof

/-! PROOF. What a command word does, by the bits its command uses, and the sensor commands: O6, O19,
O29, O30, O2, O34. -/

namespace Sys2Proof.Machine

/-! ## Words that decode alike -/

/-- A word decodes to a host command that is no second name of READ (R78). -/
theorem decodeWord_row (w : Word) :
    (decodeWord w).format = .hostCmd ∧ (decodeWord w).canonical = decodeWord w := by
  unfold decodeWord
  split <;> exact ⟨rfl, rfl⟩

/-- The decoder reads a word as the same word with the bits it does not keep cleared. -/
theorem decodeWord_keptBits (w : Word) : decodeWord (keptBits w) = decodeWord w := by
  obtain ⟨hformat, hcanonical⟩ := decodeWord_row w
  rw [← encodeWord_decodeWord, decodeWord_encodeWord hformat, hcanonical]

/-- What the decoder keeps of a word is all it depends on. -/
theorem decodeWord_eq_of_keptBits {w w' : Word} (h : keptBits w = keptBits w') :
    decodeWord w = decodeWord w' := by
  rw [← decodeWord_keptBits w, h, decodeWord_keptBits]

theorem decodeWord_read {w : Word} (hc : codeOf w = 4#4) :
    decodeWord w = .read (opcOf w) (argOf w) := by
  simp [decodeWord, hc]

theorem decodeWord_writeEeprom {w : Word} (hc : codeOf w = 7#4) :
    decodeWord w = .writeEeprom (argOf w) := by
  simp [decodeWord, hc]

/-- Words with the same CODE and the same fields its command uses execute alike: they decode alike,
but for the ARG that WRITE_EEPROM keeps and does not use (R140, log 11). -/
theorem exec_decodeWord_congr {w w' : Word} (hcode : codeOf w = codeOf w')
    (harg : codeOf w = 2#4 ∨ codeOf w = 3#4 ∨ codeOf w = 4#4 → argOf w = argOf w')
    (hopc : codeOf w = 4#4 → opcOf w = opcOf w') (hrw : codeOf w = 3#4 → rwOf w = rwOf w')
    (s : State) : exec (decodeWord w) s = exec (decodeWord w') s := by
  by_cases heeprom : codeOf w = 7#4
  · rw [decodeWord_writeEeprom heeprom, decodeWord_writeEeprom (hcode.symm.trans heeprom)]
    rfl
  · have hkept : keptBits w = keptBits w' := by
      simp only [keptBits, keptArg, keptOpc, keptRw, ← hcode, heeprom, or_false]
      congr 1
      · split
        · next h => rw [harg h]
        · simp only [BitVec.and_zero]
      · split
        · next h => rw [hopc h]
        · simp only [BitVec.and_zero]
      · cases h : codeOf w == 3#4
        · simp only [Bool.and_false]
        · rw [hrw (eq_of_beq h)]
    rw [decodeWord_eq_of_keptBits hkept]

/-- Settles O6: clearing the reserved bits leaves every field of a word as it was. -/
theorem unusedBitsAreIgnored : Obligations.UnusedBitsAreIgnored := by
  refine ⟨fun w s => ?reserved, fun w w' s => exec_decodeWord_congr (w := w) (w' := w') (s := s)⟩
  have hmask : 0x000FFF0F#32 = commandWord 0xF#4 (BitVec.allOnes 8) (BitVec.allOnes 3) true := by
    decide
  rw [hmask, and_commandWord]
  exact exec_decodeWord_congr (codeOf_commandWord ..)
    (fun _ => (argOf_commandWord ..).trans BitVec.and_allOnes)
    (fun _ => (opcOf_commandWord ..).trans BitVec.and_allOnes)
    (fun _ => (rwOf_commandWord ..).trans (Bool.and_true _)) s

/-! ## Reserved codes (R76) -/

/-- Words with CODE 0xB to 0xF decode to the reserved rows. -/
theorem decodeWord_reserved {w : Word} (h : 0xB ≤ (codeOf w).toNat) :
    decodeWord w ∈ [Instr.reservedB, .reservedC, .reservedD, .reservedE, .reservedF] := by
  have hlt := (codeOf w).isLt
  unfold decodeWord
  generalize (codeOf w).toNat = code at h hlt
  interval_cases code <;> simp

theorem exec_reserved {i : Instr}
    (h : i ∈ [Instr.reservedB, .reservedC, .reservedD, .reservedE, .reservedF]) (s : State) :
    exec i s = .next { s with err := 6#4 } := by
  simp only [List.mem_cons, List.not_mem_nil, or_false] at h
  obtain rfl | rfl | rfl | rfl | rfl := h <;> rfl

/-- Settles O19. -/
theorem reservedCodesAreInvalidCommand : Obligations.ReservedCodesAreInvalidCommand :=
  ⟨fun _ s h => ⟨decodeWord_reserved h, exec_reserved (decodeWord_reserved h) s⟩,
    fun _ hi s => exec_reserved hi s⟩

/-! ## READ under its other names (R77, R96) -/

/-- Settles O30. -/
theorem pseudoInstructionsMeanRead : Obligations.PseudoInstructionsMeanRead :=
  ⟨fun _ _ => ⟨rfl, rfl⟩, fun _ _ => ⟨rfl, rfl⟩, fun _ _ _ => ⟨rfl, rfl⟩⟩

theorem opcDefined_iff (opc : BitVec 3) : opcDefined opc = true ↔ opc.toNat < 2 := by
  revert opc; decide

/-- READ with a reserved OPC: the session check first, then InvalidCommand (R77, R184). -/
theorem exec_read_reservedOpc {opc : BitVec 3} (ho : opcDefined opc = false) (a : Byte)
    (s : State) :
    exec (.read opc a) s = .next { s with err := if s.verified then 6#4 else 7#4 } := by
  rcases requireSession_cases s (readCommand (encodeWord (.read opc a)) opc a s) with
    ⟨hv, h⟩ | ⟨hv, h⟩
  · rw [exec, execRead, h]
    simp [readCommand, ho, hv, State.raise, ErrKind.code]
  · rw [exec, execRead, h]
    simp [hv, State.raise, ErrKind.code]

/-- Settles O29: the row means READ by O30, and a decoded word is READ. -/
theorem reservedOpcIsInvalidCommand : Obligations.ReservedOpcIsInvalidCommand := by
  refine ⟨fun w s hc hopc => ?word, fun opc a s hw => ?row⟩
  case word =>
    have hreserved : opcDefined (opcOf w) = false := by
      rw [← Bool.not_eq_true, opcDefined_iff]
      exact Nat.not_lt.2 hopc
    rw [decodeWord_read hc, exec_read_reservedOpc hreserved]
  case row =>
    obtain ⟨-, -, hread⟩ := pseudoInstructionsMeanRead
    obtain ⟨-, hexec⟩ := hread opc a s
    have hreserved : opcDefined opc = false := by simpa [Instr.wellFormed] using hw
    rw [hexec, exec_read_reservedOpc hreserved]

/-! ## Sensor commands run alone -/

/-- Settles O2: the sequencer decodes one byte as `decodeBytes` does. -/
theorem stepRunsTheSensorCommand : Obligations.StepRunsTheSensorCommand := by
  intro s c rest i hp hi hd _
  have hbyte : decodeSensorByte c = .ok i := hd
  rw [step_sequence hp hi, startSequence, hbyte]
  rfl

/-- An answer whose PEC matches is accepted (R124, R125). -/
theorem transact_match {sa cmd b0 b1 b2 : Byte} {c : Ctx} {rest : List XferAnswer}
    (hsa : sa.toNat < 0x80) (hx : c.bus.xfers = .ok b0 b1 b2 :: rest)
    (hp : goodPec sa cmd b0 b1 = b2) :
    transact sa cmd c = (.ok (b1 ++ b0),
      { bus := c.bus.afterXfer (.xfer sa cmd) rest, txnCrc := b2
        staged := c.staged ++ [b1 ++ b0] }) := by
  simp [transact, BusPort.askXfer, hx, BusPort.afterXfer, pec_of_legal hsa, hp,
    dataWord_eq_append]

theorem runTransaction_ok {cmd : Byte} {s : State} {v : Half} {c : Ctx}
    (h : transact s.slaveAddr cmd (Ctx.start s) = (.ok v, c)) :
    runTransaction cmd s =
      .next { s with bus := c.bus, txnCrc := c.txnCrc, txnResult := some (.word v) } := by
  simp only [runTransaction, h]

/-- Settles O34: the answer's PEC matches, so the one transaction returns its word. -/
theorem sensorCommandReturnsTheWord : Obligations.SensorCommandReturnsTheWord := by
  intro s address cmd b0 b1 b2 rest i hi hsa hx hp
  rw [exec_sensorCommand hi]
  exact runTransaction_ok (transact_match hsa hx hp)

end Sys2Proof.Machine

/-! PROOF. The codes of ERR and the requests of a step: O51, O53. -/

namespace Sys2Proof.Machine

/-! ## ERR (R90) -/

/-- Every instruction leaves OK, the code of an error kind, or the ERR it found. -/
theorem exec_keeps_errCodeLegal {i : Instr} {s t : State} (hs : s.ErrCodeLegal)
    (h : exec i s = .next t) : t.ErrCodeLegal := by
  have hok : errOk.toNat < 8 := by decide
  cases exec_effect h with
  | nop | crcReset | crcPutByte | crcPutSa | sessionClose => exact hok
  | sessionInit | refresh | readConfig | read => exact hok
  | error k => exact k.code_lt
  | pending | transaction => exact hs

/-- Settles O51: apart from an instruction only block reset writes ERR, with OK. -/
theorem everyStepKeepsErrALegalCode : Obligations.EveryStepKeepsErrALegalCode := by
  refine ⟨fun s t hs h => ?step, fun i s t hs h => exec_keeps_errCodeLegal hs h⟩
  have hs' (rest : List Input) : (s.withInputs rest).ErrCodeLegal := hs
  cases step_effect h with
  | waits => exact hs
  | blockReset => exact (by decide : errOk.toNat < 8)
  | answered => exact hs
  | written r v rest =>
    rcases regWrite_cases r v (s.withInputs rest) with he | ⟨-, -, he⟩ <;> rw [he] <;> exact hs
  | completed w rest u hp hi he =>
    have hu : u.ErrCodeLegal := exec_keeps_errCodeLegal (hs' rest) he
    exact hu
  | stalled w rest u p hp hi he =>
    have hu : u.ErrCodeLegal := exec_keeps_errCodeLegal (hs' rest) he
    exact hu
  | sequenced c i rest t hp hi hd he => exact exec_keeps_errCodeLegal (hs' rest) he

/-! ## Requests (R81)

Every request is made by BIND or by a transaction with a byte of the mapper, so what is said here of
those two holds of every procedure, command and step built from them. -/

/-- The port `q` is `p` after requests that are legal for the slave address `sa`, and no others. -/
def BusPort.AddsLegal (sa : Byte) (p q : BusPort) : Prop :=
  ∃ made : List BusRequest, q.log = p.log ++ made ∧ ∀ r ∈ made, r.Legal sa

/-- A procedure whose requests are legal. -/
def LegalProc {α : Type} (sa : Byte) (proc : Ctx → Res α × Ctx) : Prop :=
  ∀ c : Ctx, c.bus.AddsLegal sa (proc c).2.bus

/-- An outcome whose next state, if it has one, comes from `s` with legal requests. -/
def LegalOutcome (s : State) (o : StepOutcome) : Prop :=
  ∀ t, o = .next t → s.bus.AddsLegal s.slaveAddr t.bus

namespace BusPort.AddsLegal

variable {sa : Byte} {p q r : BusPort}

theorem of_log_eq (h : q.log = p.log) : p.AddsLegal sa q :=
  ⟨[], by simp [h], by simp⟩

theorem trans (hpq : p.AddsLegal sa q) (hqr : q.AddsLegal sa r) : p.AddsLegal sa r := by
  obtain ⟨xs, hq, hxs⟩ := hpq
  obtain ⟨ys, hr, hys⟩ := hqr
  refine ⟨xs ++ ys, by rw [hr, hq, List.append_assoc], fun x hx => ?_⟩
  exact (List.mem_append.1 hx).elim (hxs x) (hys x)

theorem askBind (sa : Byte) (p : BusPort) : p.AddsLegal sa (p.askBind sa).2 :=
  ⟨[.bind sa], rfl, by simp⟩

theorem askXfer {cmd : Byte} (hcmd : cmd.toNat < 0x40) (sa : Byte) (p : BusPort) :
    p.AddsLegal sa (p.askXfer sa cmd).2 :=
  ⟨[.xfer sa cmd], rfl, by simpa using hcmd⟩

end BusPort.AddsLegal

/-! ### Procedures -/

theorem legalProc_ok {α : Type} (sa : Byte) (v : α) : LegalProc sa fun c => (.ok v, c) :=
  fun _ => .of_log_eq rfl

theorem legalProc_err {α : Type} (sa : Byte) (k : ErrKind) :
    LegalProc (α := α) sa fun c => (.err k, c) :=
  fun _ => .of_log_eq rfl

theorem legalProc_andThen {α β : Type} {sa : Byte} {p : Ctx → Res α × Ctx}
    {f : α → Ctx → Res β × Ctx} (hp : LegalProc sa p) (hf : ∀ v, LegalProc sa (f v)) :
    LegalProc sa fun c => andThen (p c) f := by
  intro c
  have hc := hp c
  rcases andThen_cases (p c) f with ⟨v, d, hd, he⟩ | ⟨k, d, hd, he⟩ | ⟨q, d, hd, he⟩ <;>
    rw [hd] at hc <;> dsimp only <;> rw [he]
  · exact hc.trans (hf v d)
  · exact hc
  · exact hc

theorem bindPort_legalProc (sa : Byte) : LegalProc sa (bindPort sa) := by
  intro c
  rcases bindPort_cases sa c with ⟨-, h⟩ | ⟨-, h⟩ | ⟨-, h⟩ <;> rw [h] <;> exact .askBind ..

theorem transact_legalProc (sa : Byte) {cmd : Byte} (hcmd : cmd.toNat < 0x40) :
    LegalProc sa (transact sa cmd) := by
  intro c
  rw [transact_bus]
  exact .askXfer hcmd ..

/-- The mapper gives a byte below 0x40 for the two defined spaces (R80, R120). -/
theorem mapCmd_lt {opc : BitVec 3} (ho : opcDefined opc = true) {a : Byte} (ha : a.toNat < 32) :
    (mapCmd opc a).toNat < 0x40 := by
  have hopc := (opcDefined_iff opc).1 ho
  rw [mapCmd_toNat opc ha]
  omega

theorem readTxn_legalProc (sa : Byte) {opc : BitVec 3} (ho : opcDefined opc = true) (a : Byte) :
    LegalProc sa (readTxn sa opc a) := by
  intro c
  by_cases ha : a.toNat < 32
  · rw [readTxn_legal ha]
    exact transact_legalProc sa (mapCmd_lt ho ha) c
  · rw [readTxn_illegal (Nat.not_lt.1 ha)]
    exact .of_log_eq rfl

theorem readDiagnostics_legalProc (sa : Byte) (stored : Half) :
    LegalProc sa (readDiagnostics sa stored) :=
  legalProc_andThen (readTxn_legalProc sa rfl _) fun _ =>
  legalProc_andThen (readTxn_legalProc sa rfl _) fun _ =>
  legalProc_andThen (readTxn_legalProc sa rfl _) fun _ =>
  legalProc_andThen (readTxn_legalProc sa rfl _) fun _ =>
  legalProc_andThen (readTxn_legalProc sa rfl _) fun _ =>
  legalProc_andThen (readTxn_legalProc sa rfl _) fun _ => legalProc_ok sa _

theorem sessionInitProc_legalProc (mode : AddrCheckMode) (sa : Byte) :
    LegalProc sa (sessionInitProc mode sa) :=
  legalProc_andThen (bindPort_legalProc sa) fun _ =>
  legalProc_andThen (readTxn_legalProc sa rfl _) fun stored => by
    split
    · exact readDiagnostics_legalProc sa stored
    · exact legalProc_err sa _

theorem refreshProc_legalProc (sa : Byte) : LegalProc sa (refreshProc sa) :=
  legalProc_andThen (readTxn_legalProc sa rfl _) fun _ =>
  legalProc_andThen (readTxn_legalProc sa rfl _) fun _ =>
  legalProc_andThen (readTxn_legalProc sa rfl _) fun _ => legalProc_ok sa _

/-! ### Commands and steps -/

section
variable {s : State}

/-- A next state with the port untouched. -/
theorem legalOutcome_of_bus_eq {t : State} (h : t.bus = s.bus) : LegalOutcome s (.next t) := by
  rintro _ ⟨⟩
  exact .of_log_eq (congrArg BusPort.log h)

theorem requireSession_legalOutcome {body : StepOutcome} (hb : LegalOutcome s body) :
    LegalOutcome s (requireSession s body) := by
  rcases requireSession_cases s body with ⟨-, h⟩ | ⟨-, h⟩ <;> rw [h]
  · exact hb
  · exact legalOutcome_of_bus_eq rfl

/-- A command over the bus makes its procedure's requests, however it ends, when what it commits is
no matter of the port. -/
theorem runCommand_legalOutcome {α : Type} {w : Word} {proc : Ctx → Res α × Ctx}
    {commit : α → State → State} (hp : LegalProc s.slaveAddr proc)
    (hc : ∀ v u, (commit v u).bus = u.bus) : LegalOutcome s (runCommand w s proc commit) := by
  have hstart := hp (Ctx.start s)
  rcases runCommand_cases w s proc commit with ⟨v, c, hr, h⟩ | ⟨k, c, hr, h⟩ | ⟨q, c, hr, h⟩ <;>
    rw [hr] at hstart <;> rw [h] <;> rintro _ ⟨⟩
  · rw [State.complete_bus, hc]; exact hstart
  · exact hstart
  · exact hstart

theorem readCommand_legalOutcome (w : Word) (opc : BitVec 3) (a : Byte) :
    LegalOutcome s (readCommand w opc a s) := by
  unfold readCommand
  split
  · next ho => exact runCommand_legalOutcome (readTxn_legalProc _ ho a) fun _ _ => rfl
  · exact legalOutcome_of_bus_eq rfl

theorem runTransaction_legalOutcome {cmd : Byte} (hcmd : cmd.toNat < 0x40) :
    LegalOutcome s (runTransaction cmd s) := by
  have hstart := transact_legalProc s.slaveAddr hcmd (Ctx.start s)
  rcases runTransaction_cases cmd s with ⟨v, c, hr, h⟩ | ⟨k, c, hr, h⟩ | ⟨q, c, hr, h⟩ <;>
    rw [hr] at hstart <;> rw [h] <;> rintro _ ⟨⟩ <;> exact hstart

/-- The offset of a sensor command is below 32. -/
theorem address_lt (address : BitVec 5) : (address.setWidth 8).toNat < 32 :=
  (BitVec.toNat_setWidth_of_le (by decide)).trans_lt address.isLt

/-- Every instruction makes legal requests only. -/
theorem exec_legalOutcome (i : Instr) (s : State) : LegalOutcome s (exec i s) := by
  cases i with
  | nop | crcReset | crcPutByte | readFlags | writeEeprom | sessionClose =>
    exact legalOutcome_of_bus_eq rfl
  | reservedB | reservedC | reservedD | reservedE | reservedF => exact legalOutcome_of_bus_eq rfl
  | crcPutSa a rw =>
    simp only [exec, execCrcPutSa]
    split <;> exact legalOutcome_of_bus_eq rfl
  | read | readReservedOpc => exact requireSession_legalOutcome (readCommand_legalOutcome _ _ _)
  | readRam | readEeprom | readConfig =>
    exact requireSession_legalOutcome
      (runCommand_legalOutcome (readTxn_legalProc _ rfl _) fun _ _ => rfl)
  | refresh =>
    exact requireSession_legalOutcome
      (runCommand_legalOutcome (refreshProc_legalProc _) fun _ _ => rfl)
  | sessionInit =>
    simp only [exec, execSessionInit]
    split
    · exact legalOutcome_of_bus_eq rfl
    · exact runCommand_legalOutcome (sessionInitProc_legalProc _ _) fun _ _ => rfl
  | smbusRamRead address | smbusEepromRead address =>
    exact runTransaction_legalOutcome (mapCmd_lt rfl (address_lt address))

end

/-- Settles O53: the requests of a step are those of the instruction it runs, if it runs one. -/
theorem stepsEmitOnlyLegalRequests : Obligations.StepsEmitOnlyLegalRequests := by
  intro s t h
  change s.bus.AddsLegal s.slaveAddr t.bus
  cases step_effect h with
  | waits | blockReset | answered => exact .of_log_eq rfl
  | written r v rest =>
    rcases regWrite_cases r v (s.withInputs rest) with he | ⟨-, -, he⟩ <;> rw [he] <;>
      exact .of_log_eq rfl
  | completed w rest u hp hi he => exact exec_legalOutcome (decodeWord w) (s.withInputs rest) u he
  | stalled w rest u p hp hi he => exact exec_legalOutcome (decodeWord w) (s.withInputs rest) u he
  | sequenced c i rest t hp hi hd he => exact exec_legalOutcome i (s.withInputs rest) t he

end Sys2Proof.Machine

/-! PROOF. The CRC unit: its loop, its table and what it detects, and the host CRC commands: O20 to
O23, O12 to O15. -/

namespace Sys2Proof.Machine

/-! ## The loop (R100, R101) -/

theorem crcShift_eq_loop :
    crcShift = fun v : Byte => if v.getLsbD 7 then (v <<< 1) ^^^ 0x07#8 else v <<< 1 := by
  funext v
  rw [crcShift, BitVec.msb_eq_getLsbD_last]
  rfl

theorem crcShifts_eq_iterate (n : Nat) : crcShifts n = crcShift^[n] := by
  induction n with
  | zero => rfl
  | succ n ih => rw [Function.iterate_succ, ← ih]; rfl

/-- Settles O20. -/
theorem crcStepIsTheLoop : Obligations.CrcStepIsTheLoop := fun c b => by
  rw [crcStep, crcShifts_eq_iterate, crcShift_eq_loop]

/-! ## Zero (R111) -/

theorem crcShifts_zero (n : Nat) : crcShifts n 0x00#8 = 0x00#8 := by
  rw [crcShifts_eq_iterate]
  exact Function.iterate_fixed (by decide) n

/-- A byte equal to the accumulator clears it (R108, R111). -/
theorem crcStep_self (b : Byte) : crcStep b b = 0x00#8 := by
  rw [crcStep, BitVec.xor_self, crcShifts_zero]

/-- Settles O22: the last byte of a message with its CRC is the accumulator's own value, and so is
every zero byte fed from 0. -/
theorem crcOfMessageAndItsCrcIsZero : Obligations.CrcOfMessageAndItsCrcIsZero := by
  refine ⟨fun m => ?message, fun n => ?zeros⟩
  case message => rw [crcFeed_concat, crcStep_self]
  case zeros =>
    induction n with
    | zero => rfl
    | succ n ih => rw [List.replicate_succ', crcFeed_concat, ih, crcStep_self]

/-! ## The table (R106) -/

/-- The XOR comes first, so a step depends on `c ^ b` only. -/
theorem crcStep_eq_zero_xor (c b : Byte) : crcStep c b = crcStep 0x00#8 (c ^^^ b) := by
  simp only [crcStep, BitVec.zero_xor]

/-- The listing of V1, entry by entry, is the loop run from 0. -/
theorem crcTable_eq : crcTable = (List.range 256).map fun n => crcStep 0x00#8 (.ofNat 8 n) := by
  decide +kernel

theorem crcTable_getElem? (i : Byte) : crcTable[i.toNat]? = some (crcStep 0x00#8 i) := by
  simp [crcTable_eq, List.getElem?_range i.isLt]

/-- Settles O21: the listing is the loop from 0, and a step depends on `c ^ b` only. -/
theorem crcStepIsTheTable : Obligations.CrcStepIsTheTable := by
  refine ⟨by simp [crcTable_eq], crcTable_getElem?, fun c b => ?_⟩
  rw [crcTable_getElem?, ← crcStep_eq_zero_xor]

/-! ## Detection: every stage of the unit is injective -/

/-- The polynomial has a constant term and a shifted byte has none, so bit 0 of the result tells
whether the polynomial was added. -/
theorem crcShift_getLsbD_zero (v : Byte) : (crcShift v).getLsbD 0 = v.msb := by
  cases h : v.msb <;> simp [crcShift, h, crcPoly]

/-- A byte is its top bit and its left shift. -/
theorem eq_of_msb_eq_of_shiftLeft_eq {v w : Byte} (hmsb : v.msb = w.msb)
    (hshift : v <<< 1 = w <<< 1) : v = w := by
  rw [BitVec.msb_eq_decide, BitVec.msb_eq_decide, decide_eq_decide] at hmsb
  have htoNat := congrArg BitVec.toNat hshift
  simp only [BitVec.toNat_shiftLeft, Nat.shiftLeft_eq] at htoNat
  bv_omega

theorem crcShift_injective : Function.Injective crcShift := by
  intro v w h
  have hmsb : v.msb = w.msb := by rw [← crcShift_getLsbD_zero, h, crcShift_getLsbD_zero]
  refine eq_of_msb_eq_of_shiftLeft_eq hmsb ?_
  rw [crcShift, crcShift, hmsb] at h
  split at h
  · exact (BitVec.xor_left_inj _).1 h
  · exact h

theorem crcShifts_injective (n : Nat) : Function.Injective (crcShifts n) := by
  rw [crcShifts_eq_iterate]
  exact crcShift_injective.iterate n

theorem crcStep_inj_byte (c : Byte) {x y : Byte} : crcStep c x = crcStep c y ↔ x = y :=
  (crcShifts_injective 8).eq_iff.trans (BitVec.xor_right_inj c)

theorem crcStep_inj_acc (b : Byte) {c d : Byte} : crcStep c b = crcStep d b ↔ c = d :=
  (crcShifts_injective 8).eq_iff.trans (BitVec.xor_left_inj b)

/-- Accumulators that differ still differ after the same bytes. -/
theorem crcFeed_injective (m : List Byte) : Function.Injective fun c => crcFeed c m := by
  induction m with
  | nil => exact fun _ _ h => h
  | cons b m ih => exact fun _ _ h => (crcStep_inj_acc b).1 (ih h)

theorem crcFeed_append_cons (c x : Byte) (before after : List Byte) :
    crcFeed c (before ++ x :: after) = crcFeed (crcStep (crcFeed c before) x) after := by
  simp only [crcFeed, List.foldl_append, List.foldl_cons]

/-- Settles O23: the accumulators differ after the corrupted byte, and from then on. -/
theorem crcDetectsOneCorruptedByte : Obligations.CrcDetectsOneCorruptedByte := by
  intro c x y before after hxy h
  rw [crcFeed_append_cons, crcFeed_append_cons] at h
  exact hxy ((crcStep_inj_byte _).1 (crcFeed_injective after h))

/-! ## The words of the CRC commands (R70, R95) -/

/-- A command word as the OR of its fields, each shifted to its place. -/
theorem commandWord_eq_or (code : BitVec 4) (arg : BitVec 8) (opc : BitVec 3) (rw : Bool) :
    commandWord code arg opc rw =
      ((BitVec.ofBool rw).setWidth 32 <<< 19) ||| (opc.setWidth 32 <<< 16) |||
        (arg.setWidth 32 <<< 8) ||| code.setWidth 32 := by
  calc commandWord code arg opc rw
    _ = (0#12 ++ BitVec.ofBool rw ++ opc ++ arg ++ 0#4 ++ code).setWidth 32 :=
      (BitVec.setWidth_eq _).symm
    _ = _ := by
      simp only [BitVec.setWidth_append_eq_shiftLeft_setWidth_or, BitVec.shiftLeft_or_distrib,
        ← BitVec.shiftLeft_add]
      simp

theorem decodeWord_crcReset {w : Word} (hc : codeOf w = 1#4) : decodeWord w = .crcReset := by
  simp [decodeWord, hc]

theorem decodeWord_crcPutByte {w : Word} (hc : codeOf w = 2#4) :
    decodeWord w = .crcPutByte (argOf w) := by
  simp [decodeWord, hc]

theorem decodeWord_crcPutSa {w : Word} (hc : codeOf w = 3#4) :
    decodeWord w = .crcPutSa (argOf w) (rwOf w) := by
  simp [decodeWord, hc]

theorem encodeWord_crcPutByte (b : Byte) :
    encodeWord (.crcPutByte b) = (b.setWidth 32 <<< 8) ||| 0x2#32 := by
  rw [encodeWord, commandWord_eq_or]
  simp

theorem encodeWord_crcPutSa (a : Byte) (rw : Bool) :
    encodeWord (.crcPutSa a rw) =
      ((if rw then 1#32 else 0#32) <<< 19) ||| (a.setWidth 32 <<< 8) ||| 0x3#32 := by
  rw [encodeWord, commandWord_eq_or]
  cases rw <;> simp

/-! ## The CRC commands (R107 to R110) -/

/-- Settles O12. -/
theorem crcResetZeroesTheAccumulator : Obligations.CrcResetZeroesTheAccumulator :=
  ⟨by decide, fun _ hc => decodeWord_crcReset hc, fun _ => rfl⟩

/-- Settles O13: the meaning is one step of the unit, and a byte equal to the accumulator clears
it. -/
theorem crcPutByteFeedsArg : Obligations.CrcPutByteFeedsArg :=
  ⟨encodeWord_crcPutByte, fun _ hc => decodeWord_crcPutByte hc, fun _ _ => rfl, crcStep_self,
    by decide⟩

/-- An address with bit 7 set is rejected (R104). -/
theorem crcPutSA_of_illegal (c : Byte) {a : Byte} (h : 0x80 ≤ a.toNat) (rw : Bool) :
    crcPutSA c a rw = .error .invalidAddress := by
  simp [crcPutSA, (slaveAddrIllegal_iff a).2 h]

/-- Every other address is fed as its address byte (R82, R103). -/
theorem crcPutSA_of_legal (c : Byte) {a : Byte} (h : a.toNat < 0x80) (rw : Bool) :
    crcPutSA c a rw = .ok (crcStep c ((a <<< 1) ||| (if rw then 0x01#8 else 0x00#8))) := by
  rw [crcPutSA, slaveAddrIllegal_eq_false h]
  cases rw <;> simp [addrByte]

/-- Settles O14, on either side of the guard. -/
theorem crcPutSaFeedsOrRejects : Obligations.CrcPutSaFeedsOrRejects := by
  refine ⟨encodeWord_crcPutSa, fun _ hc => decodeWord_crcPutSa hc, fun a rw s => ?_⟩
  by_cases ha : 0x80 ≤ a.toNat
  · rw [if_pos ha, exec, execCrcPutSa, crcPutSA_of_illegal s.crcAcc ha]
    rfl
  · rw [if_neg ha, exec, execCrcPutSa, crcPutSA_of_legal s.crcAcc (Nat.not_le.1 ha)]
    rfl

/-- Settles O15: a load of CRC, and an access of another width. -/
theorem crcValueReadsTheAccumulator : Obligations.CrcValueReadsTheAccumulator := by
  refine ⟨?address, fun s rest hp hi => ?load, fun s n rest hp hn hi => ?width⟩
  case address => simp [HostAccess.atAddress, HostAccess.load, HostReg.offset]
  case load =>
    rw [step_access hp hi, hostAccess_load]
    rfl
  case width =>
    have ha : ({ kind := .read, off := 0x10, width := n, value := 0#32 } : HostAccess).admitted =
        false := by
      rw [← Bool.not_eq_true, HostAccess.admitted_iff]
      exact fun ⟨hw, _⟩ => hn hw
    rw [step_access hp hi, hostAccess_refused _ ha]
    rfl

end Sys2Proof.Machine

/-! PROOF. The register address mapper, the READ family, and the commands with no meaning yet: O25,
O26, O27, O28, O31, O32, O33, O16, O17. -/

namespace Sys2Proof.Machine

/-! ## The expected PEC and the mapper (R120, R122) -/

/-- Settles O25, on either side of the guard. -/
theorem pecCoversTheFrame : Obligations.PecCoversTheFrame := by
  intro sa cmd d0 d1
  by_cases hsa : 0x80 ≤ sa.toNat
  · rw [if_pos hsa, pec_of_illegal hsa]
  · rw [if_neg hsa, pec_of_legal (Nat.not_le.1 hsa)]
    rfl

/-- The mapped byte is the one with the mapped number. -/
theorem mapCmd_eq_iff {opc : BitVec 3} {a cmd : Byte} (ha : a.toNat < 32) :
    mapCmd opc a = cmd ↔ cmd.toNat = 32 * opc.toNat + a.toNat := by
  rw [← mapCmd_toNat opc ha, ← BitVec.toNat_inj, eq_comm]

/-- Settles O26: the space is the quotient of the byte by 32, the offset the remainder. -/
theorem mapperIsABijection : Obligations.MapperIsABijection := by
  refine ⟨fun _ _ => rfl, fun opc a ha => mapCmd_toNat opc ha, fun cmd hcmd => ?_⟩
  have hopc : (BitVec.ofNat 3 (cmd.toNat / 32)).toNat = cmd.toNat / 32 :=
    Nat.mod_eq_of_lt (by omega)
  have ha : (BitVec.ofNat 8 (cmd.toNat % 32)).toNat = cmd.toNat % 32 :=
    Nat.mod_eq_of_lt (by omega)
  refine ⟨.ofNat 3 (cmd.toNat / 32), .ofNat 8 (cmd.toNat % 32), by omega, by omega,
    (mapCmd_eq_iff (by omega)).2 (by omega), fun opc' a' _ ha' hmap => ?unique⟩
  case unique =>
    have hsplit := (mapCmd_eq_iff ha').1 hmap
    exact ⟨BitVec.eq_of_toNat_eq (by omega), BitVec.eq_of_toNat_eq (by omega)⟩

/-! ## Running a command whose procedure is known -/

section
variable {α : Type} {w : Word} {s t : State} {proc : Ctx → Res α × Ctx}
  {commit : α → State → State} {c : Ctx}

theorem runCommand_ok {v : α} (h : proc (Ctx.start s) = (.ok v, c)) :
    runCommand w s proc commit =
      .next (commit v { s with bus := c.bus, txnCrc := c.txnCrc }).complete := by
  simp only [runCommand, h]

theorem runCommand_err {k : ErrKind} (h : proc (Ctx.start s) = (.err k, c)) :
    runCommand w s proc commit = .next ((s.withBus c.bus).raise k) := by
  simp only [runCommand, h]

/-- However a command ends, the port is as its procedure left it, when what it commits is no matter
of the port. -/
theorem runCommand_bus (hc : ∀ v u, (commit v u).bus = u.bus)
    (h : runCommand w s proc commit = .next t) : t.bus = (proc (Ctx.start s)).2.bus := by
  rcases runCommand_cases w s proc commit with ⟨v, c, hp, hr⟩ | ⟨k, c, hp, hr⟩ | ⟨q, c, hp, hr⟩ <;>
    rw [hr] at h <;> cases h <;> rw [hp]
  · exact hc v _
  · rfl
  · rfl

end

theorem requireSession_none {s : State} (hv : s.verified = false) (body : StepOutcome) :
    requireSession s body = .next (s.raise .sessionState) := by
  simp [requireSession, hv]

/-! ## READ (R134 to R136) -/

section
variable {s : State} {opc : BitVec 3} {a : Byte}

/-- Past the checks of the session and of OPC, READ is one ReadTxn. -/
theorem exec_read_live (hv : s.verified = true) (ho : opc.toNat < 2) :
    exec (.read opc a) s =
      runCommand (encodeWord (.read opc a)) s (readTxn s.slaveAddr opc a) commitRead := by
  rw [exec, execRead, requireSession_live hv, readCommand, if_pos ((opcDefined_iff opc).2 ho)]

/-- READ_RAM and READ_EEPROM are READ with the OPC of their space (R135, R136). -/
theorem exec_eq_read {i : Instr}
    (h : i = .read opc a ∨ (opc = 0b000#3 ∧ i = .readRam a) ∨ (opc = 0b001#3 ∧ i = .readEeprom a)) :
    exec i s = exec (.read opc a) s := by
  obtain rfl | ⟨rfl, rfl⟩ | ⟨rfl, rfl⟩ := h <;> rfl

theorem encodeWord_read :
    encodeWord (.read opc a) = (opc.setWidth 32 <<< 16) ||| (a.setWidth 32 <<< 8) ||| 0x4#32 := by
  rw [encodeWord, commandWord_eq_or]
  simp

end

/-- Settles O27: the one transaction returns its word, which READ commits. -/
theorem readReturnsTheWordOnAMatch : Obligations.ReadReturnsTheWordOnAMatch := by
  intro s opc a cmd b0 b1 b2 rest i hi hv ho ha hcmd hsa hx hp
  obtain rfl : mapCmd opc a = cmd := (mapCmd_eq_iff ha).2 hcmd
  have hread : readTxn s.slaveAddr opc a (Ctx.start s) = _ :=
    (readTxn_legal ha ..).trans (transact_match hsa hx hp)
  rw [exec_eq_read hi, exec_read_live hv ho, runCommand_ok hread]
  rfl

/-- Settles O28: the three checks before the bus, then the one transaction by its answer. -/
theorem readChecksInOrder : Obligations.ReadChecksInOrder := by
  intro s opc a cmd hcmd
  refine ⟨fun hv => requireSession_none hv _, fun hv ho => ?opc, fun hv ho ha => ?address,
    fun hv ho ha => ?bus⟩
  case opc =>
    have hreserved : opcDefined opc = false := by
      rw [← Bool.not_eq_true, opcDefined_iff]
      exact Nat.not_lt.2 ho
    rw [exec_read_reservedOpc hreserved, if_pos hv]
  case address =>
    rw [exec_read_live hv ho, runCommand_err (readTxn_illegal ha ..)]
    rfl
  case bus =>
    obtain rfl : mapCmd opc a = cmd := (mapCmd_eq_iff ha).2 (by omega)
    rw [exec_read_live hv ho]
    have hread := readTxn_legal ha s.slaveAddr opc (Ctx.start s)
    refine ⟨fun rest hx => ?fail, fun b0 b1 b2 rest hx hsa => ?illegal,
      fun b0 b1 b2 rest hx hsa hp => ?badPec, fun hx => ?unanswered⟩
    case fail => exact runCommand_err (hread.trans (transact_fail hx))
    case illegal => exact runCommand_err (hread.trans (transact_illegal hsa hx))
    case badPec => exact runCommand_err (hread.trans (transact_badPec hsa hx hp))
    case unanswered =>
      rw [runCommand_hung (hread.trans (transact_unanswered hx)), encodeWord_read]
      rfl

/-- An admitted read for a 7-bit slave address is InvalidAddress in no outcome: a state that shows
that code found it there, and is pending (R121). -/
theorem read_invalidAddress_pending {w : Word} {s t : State} {opc : BitVec 3} {a : Byte}
    (ha : a.toNat < 32) (hsa : s.slaveAddr.toNat < 0x80)
    (h : runCommand w s (readTxn s.slaveAddr opc a) commitRead = .next t) (herr : t.err = 1#4) :
    s.err = 1#4 ∧ t.pending.isSome = true := by
  have hread := readTxn_legal ha s.slaveAddr opc (Ctx.start s)
  rcases transact_cases hsa (mapCmd opc a) (Ctx.start s) with
    ⟨-, ht⟩ | ⟨-, ht⟩ | ⟨b0, b1, b2, -, -, ht⟩ | ⟨b0, b1, b2, -, -, ht⟩
  · rw [runCommand_err (hread.trans ht)] at h
    cases h; cases herr
  · rw [runCommand_hung (hread.trans ht)] at h
    cases h; exact ⟨herr, rfl⟩
  · rw [runCommand_ok (hread.trans ht)] at h
    cases h; cases herr
  · rw [runCommand_err (hread.trans ht)] at h
    cases h; cases herr

/-- Settles O31. -/
theorem registerAddressCheckComesBeforeTheBus :
    Obligations.RegisterAddressCheckComesBeforeTheBus := by
  intro s t opc a i ho hi h hv
  rw [exec_eq_read hi, exec_read_live hv ho] at h
  refine ⟨fun ha => ?refused, fun ha => ⟨⟨mapCmd opc a, mapCmd_toNat opc ha, ?request⟩,
    fun hsa => read_invalidAddress_pending ha hsa h⟩⟩
  case refused =>
    rw [runCommand_err (readTxn_illegal ha ..)] at h
    cases h; rfl
  case request =>
    rw [runCommand_bus (commit := commitRead) (fun _ _ => rfl) h, readTxn_legal ha, transact_bus]
    rfl

/-! ## READ_CONFIG (R137) -/

/-- Settles O32: EEPROM word 0x05 has command byte 0x25. -/
theorem readConfigWritesConfigAndRdata : Obligations.ReadConfigWritesConfigAndRdata := by
  intro s v rest hv hsa hx
  have hread := readTxn_good (opc := opcEeprom) (a := addrConfig) (c := Ctx.start s) hsa
    (by decide) hx
  rw [exec_readConfig_live hv, runCommand_ok hread]
  rfl

/-- An answer that ends a read for a 7-bit slave address raises the error of its code (R127,
R128). -/
theorem transact_badAnswer {sa cmd : Byte} {c : Ctx} {bad : XferAnswer} {code : BitVec 4}
    {rest : List XferAnswer} (hsa : sa.toNat < 0x80) (hx : c.bus.xfers = bad :: rest)
    (hbad : BadAnswer sa cmd code bad) :
    ∃ k crc, k.code = code ∧ transact sa cmd c = (.err k,
      { c with bus := c.bus.afterXfer (.xfer sa cmd) rest, txnCrc := crc }) := by
  cases bad with
  | ok b0 b1 b2 =>
    obtain ⟨hp, rfl⟩ := (badAnswer_ok ..).1 hbad
    exact ⟨.crcMismatch, _, rfl, transact_badPec hsa hx hp⟩
  | fail =>
    obtain rfl := (badAnswer_fail ..).1 hbad
    exact ⟨.ioError, _, rfl, transact_fail hx⟩
  | never => exact (badAnswer_never _ _ _ hbad).elim

/-- Settles O33. -/
theorem readConfigFailureChangesOnlyErr : Obligations.ReadConfigFailureChangesOnlyErr := by
  refine fun s => ⟨fun hv => requireSession_none hv _, fun bad code rest hv hsa hx hbad => ?_⟩
  obtain ⟨k, crc, rfl, ht⟩ := transact_badAnswer (c := Ctx.start s) hsa hx hbad
  have hread : readTxn s.slaveAddr opcEeprom addrConfig (Ctx.start s) = _ :=
    (readTxn_legal (by decide) ..).trans ht
  rw [exec_readConfig_live hv, runCommand_err hread]
  rfl

/-! ## READ_FLAGS and WRITE_EEPROM (R139, R140) -/

theorem decodeWord_readFlags {w : Word} (hc : codeOf w = 6#4) : decodeWord w = .readFlags := by
  simp [decodeWord, hc]

/-- Settles O16. -/
theorem readFlagsIsNotImplemented : Obligations.ReadFlagsIsNotImplemented :=
  ⟨by decide, fun _ hc => decodeWord_readFlags hc, fun _ => rfl⟩

theorem encodeWord_writeEeprom (a : Byte) :
    encodeWord (.writeEeprom a) = (a.setWidth 32 <<< 8) ||| 0x7#32 := by
  rw [encodeWord, commandWord_eq_or]
  simp

/-- Settles O17. -/
theorem writeEepromIsNotImplemented : Obligations.WriteEepromIsNotImplemented :=
  ⟨encodeWord_writeEeprom, fun _ hc => decodeWord_writeEeprom hc, fun _ _ => rfl⟩

end Sys2Proof.Machine

/-! PROOF. SESSION_INIT for an 8-bit slave address, and the request of a pending command: O41,
O52. -/

namespace Sys2Proof.Machine

/-! ## SESSION_INIT for an 8-bit slave address (R126, R158) -/

/-- For an 8-bit slave address SESSION_INIT ends at its bind or at its first read: a refused request
is IoError, an answered transfer InvalidAddress, anything else hangs. -/
theorem sessionInitProc_illegal {sa : Byte} (hsa : 0x80 ≤ sa.toNat) (mode : AddrCheckMode)
    (c : Ctx) :
    (∃ d, sessionInitProc mode sa c = (.err .invalidAddress, d)) ∨
    (∃ d, sessionInitProc mode sa c = (.err .ioError, d)) ∨
    ∃ q d, sessionInitProc mode sa c = (.hung q, d) := by
  unfold sessionInitProc
  rcases bindPort_cases sa c with ⟨-, hb⟩ | ⟨-, hb⟩ | ⟨-, hb⟩ <;> rw [hb]
  · rw [andThen_ok, readTxn_legal (by decide)]
    rcases transact_illegal_cases hsa (mapCmd opcEeprom addrStored)
      { c with bus := (c.bus.askBind sa).2 } with ⟨-, ht⟩ | ⟨-, ht⟩ | ⟨_, _, _, -, ht⟩ <;> rw [ht]
    · exact .inr (.inl ⟨_, rfl⟩)
    · exact .inr (.inr ⟨_, _, rfl⟩)
    · exact .inl ⟨_, rfl⟩
  · exact .inr (.inl ⟨_, rfl⟩)
  · exact .inr (.inr ⟨_, _, rfl⟩)

/-- Settles O41. -/
theorem sessionInitNeverVerifiesAnEightBitAddress :
    Obligations.SessionInitNeverVerifiesAnEightBitAddress := by
  intro s t hsa hv h
  rw [exec_sessionInit_noSession hv] at h
  rcases sessionInitProc_illegal hsa s.addrCheckMode (Ctx.start s) with
    ⟨d, hp⟩ | ⟨d, hp⟩ | ⟨q, d, hp⟩
  · rw [runCommand_err hp] at h
    cases h; exact ⟨hv, rfl, .inl rfl⟩
  · rw [runCommand_err hp] at h
    cases h; exact ⟨hv, rfl, .inr (.inl rfl)⟩
  · rw [runCommand_hung hp] at h
    cases h; exact ⟨hv, rfl, .inr (.inr ⟨rfl, rfl⟩)⟩

/-! ## The request of a pending command (R129, R182)

A procedure hangs in a BIND or in a transaction, and there the request without an answer has just
been recorded; what it did before adds requests in front. -/

/-- A procedure that hangs only on the request it made last. -/
def HangsOnLastRequest {α : Type} (proc : Ctx → Res α × Ctx) : Prop :=
  ∀ c q d, proc c = (.hung q, d) → d.bus.log.getLast? = some q

/-- An outcome whose next state, if it has one, has its pending request last. -/
def PendingLastOutcome (o : StepOutcome) : Prop := ∀ t, o = .next t → t.PendingIsLastRequest

theorem hangsOnLastRequest_ok {α : Type} (v : α) : HangsOnLastRequest fun c => (.ok v, c) := nofun

theorem hangsOnLastRequest_err {α : Type} (k : ErrKind) :
    HangsOnLastRequest (α := α) fun c => (.err k, c) := nofun

theorem hangsOnLastRequest_andThen {α β : Type} {p : Ctx → Res α × Ctx}
    {f : α → Ctx → Res β × Ctx} (hp : HangsOnLastRequest p) (hf : ∀ v, HangsOnLastRequest (f v)) :
    HangsOnLastRequest fun c => andThen (p c) f := by
  intro c q d h
  dsimp only at h
  rcases andThen_cases (p c) f with ⟨v, e, -, he⟩ | ⟨k, e, -, he⟩ | ⟨r, e, hr, he⟩ <;> rw [he] at h
  · exact hf v e q d h
  · cases h
  · cases h; exact hp c q d hr

theorem bindPort_hangsOnLastRequest (sa : Byte) : HangsOnLastRequest (bindPort sa) := by
  intro c q d h
  rcases bindPort_cases sa c with ⟨-, he⟩ | ⟨-, he⟩ | ⟨-, he⟩ <;> rw [he] at h <;> cases h
  exact List.getLast?_concat

/-- A transaction hangs on its own request. -/
theorem transact_hung {sa cmd : Byte} {c d : Ctx} {q : BusRequest}
    (h : transact sa cmd c = (.hung q, d)) : q = .xfer sa cmd := by
  rcases Nat.lt_or_ge sa.toNat 0x80 with hsa | hsa
  · rcases transact_cases hsa cmd c with
      ⟨-, ht⟩ | ⟨-, ht⟩ | ⟨_, _, _, -, -, ht⟩ | ⟨_, _, _, -, -, ht⟩ <;> rw [ht] at h <;> cases h
    rfl
  · rcases transact_illegal_cases hsa cmd c with ⟨-, ht⟩ | ⟨-, ht⟩ | ⟨_, _, _, -, ht⟩ <;>
      rw [ht] at h <;> cases h
    rfl

theorem transact_hangsOnLastRequest (sa cmd : Byte) : HangsOnLastRequest (transact sa cmd) := by
  intro c q d h
  have hbus : d.bus = (c.bus.askXfer sa cmd).2 := by rw [← transact_bus, h]
  rw [transact_hung h, hbus]
  exact List.getLast?_concat

theorem readTxn_hangsOnLastRequest (sa : Byte) (opc : BitVec 3) (a : Byte) :
    HangsOnLastRequest (readTxn sa opc a) := by
  unfold readTxn
  split
  · exact transact_hangsOnLastRequest sa _
  · exact hangsOnLastRequest_err _

theorem readDiagnostics_hangsOnLastRequest (sa : Byte) (stored : Half) :
    HangsOnLastRequest (readDiagnostics sa stored) :=
  hangsOnLastRequest_andThen (readTxn_hangsOnLastRequest _ _ _) fun _ =>
  hangsOnLastRequest_andThen (readTxn_hangsOnLastRequest _ _ _) fun _ =>
  hangsOnLastRequest_andThen (readTxn_hangsOnLastRequest _ _ _) fun _ =>
  hangsOnLastRequest_andThen (readTxn_hangsOnLastRequest _ _ _) fun _ =>
  hangsOnLastRequest_andThen (readTxn_hangsOnLastRequest _ _ _) fun _ =>
  hangsOnLastRequest_andThen (readTxn_hangsOnLastRequest _ _ _) fun _ => hangsOnLastRequest_ok _

theorem sessionInitProc_hangsOnLastRequest (mode : AddrCheckMode) (sa : Byte) :
    HangsOnLastRequest (sessionInitProc mode sa) :=
  hangsOnLastRequest_andThen (bindPort_hangsOnLastRequest sa) fun _ =>
  hangsOnLastRequest_andThen (readTxn_hangsOnLastRequest _ _ _) fun stored => by
    split
    · exact readDiagnostics_hangsOnLastRequest sa stored
    · exact hangsOnLastRequest_err _

theorem refreshProc_hangsOnLastRequest (sa : Byte) : HangsOnLastRequest (refreshProc sa) :=
  hangsOnLastRequest_andThen (readTxn_hangsOnLastRequest _ _ _) fun _ =>
  hangsOnLastRequest_andThen (readTxn_hangsOnLastRequest _ _ _) fun _ =>
  hangsOnLastRequest_andThen (readTxn_hangsOnLastRequest _ _ _) fun _ => hangsOnLastRequest_ok _

/-! ### Commands and steps -/

theorem pendingIsLastRequest_of_none {s : State} (h : s.pending = none) :
    s.PendingIsLastRequest := by
  simp [State.PendingIsLastRequest, h]

theorem hang_pendingIsLastRequest {s : State} {p : Pending} :
    (s.hang p).PendingIsLastRequest ↔ s.bus.log.getLast? = some p.request := by
  simp [State.PendingIsLastRequest]

section
variable {s : State} (hs : s.pending = none)
include hs

/-- A next state that is not pending. -/
theorem pendingLastOutcome_of_pending_eq {t : State} (h : t.pending = s.pending) :
    PendingLastOutcome (.next t) := by
  rintro _ ⟨⟩
  exact pendingIsLastRequest_of_none (h.trans hs)

theorem requireSession_pendingLastOutcome {body : StepOutcome} (hb : PendingLastOutcome body) :
    PendingLastOutcome (requireSession s body) := by
  rcases requireSession_cases s body with ⟨-, h⟩ | ⟨-, h⟩ <;> rw [h]
  · exact hb
  · exact pendingLastOutcome_of_pending_eq hs rfl

theorem runCommand_pendingLastOutcome {α : Type} {w : Word} {proc : Ctx → Res α × Ctx}
    {commit : α → State → State} (hp : HangsOnLastRequest proc)
    (hc : ∀ v u, (commit v u).pending = u.pending) :
    PendingLastOutcome (runCommand w s proc commit) := by
  rcases runCommand_cases w s proc commit with ⟨v, c, -, h⟩ | ⟨k, c, -, h⟩ | ⟨q, c, hr, h⟩ <;>
    rw [h]
  · exact pendingLastOutcome_of_pending_eq hs (hc v _)
  · exact pendingLastOutcome_of_pending_eq hs rfl
  · rintro _ ⟨⟩
    exact hang_pendingIsLastRequest.2 (hp _ q c hr)

theorem readCommand_pendingLastOutcome (w : Word) (opc : BitVec 3) (a : Byte) :
    PendingLastOutcome (readCommand w opc a s) := by
  unfold readCommand
  split
  · exact runCommand_pendingLastOutcome hs (readTxn_hangsOnLastRequest _ _ _) fun _ _ => rfl
  · exact pendingLastOutcome_of_pending_eq hs rfl

theorem runTransaction_pendingLastOutcome (cmd : Byte) :
    PendingLastOutcome (runTransaction cmd s) := by
  rcases runTransaction_cases cmd s with ⟨v, c, -, h⟩ | ⟨k, c, -, h⟩ | ⟨q, c, hr, h⟩ <;> rw [h]
  · exact pendingLastOutcome_of_pending_eq hs rfl
  · exact pendingLastOutcome_of_pending_eq hs rfl
  · rintro _ ⟨⟩
    exact hang_pendingIsLastRequest.2 (transact_hangsOnLastRequest _ _ _ q c hr)

/-- An instruction that starts with nothing pending can only leave its own last request pending. -/
theorem exec_pendingLastOutcome (i : Instr) : PendingLastOutcome (exec i s) := by
  cases i with
  | nop | crcReset | crcPutByte | readFlags | writeEeprom | sessionClose =>
    exact pendingLastOutcome_of_pending_eq hs rfl
  | reservedB | reservedC | reservedD | reservedE | reservedF =>
    exact pendingLastOutcome_of_pending_eq hs rfl
  | crcPutSa a rw =>
    simp only [exec, execCrcPutSa]
    split <;> exact pendingLastOutcome_of_pending_eq hs rfl
  | read | readReservedOpc =>
    exact requireSession_pendingLastOutcome hs (readCommand_pendingLastOutcome hs _ _ _)
  | readRam | readEeprom | readConfig =>
    exact requireSession_pendingLastOutcome hs
      (runCommand_pendingLastOutcome hs (readTxn_hangsOnLastRequest _ _ _) fun _ _ => rfl)
  | refresh =>
    exact requireSession_pendingLastOutcome hs
      (runCommand_pendingLastOutcome hs (refreshProc_hangsOnLastRequest _) fun _ _ => rfl)
  | sessionInit =>
    simp only [exec, execSessionInit]
    split
    · exact pendingLastOutcome_of_pending_eq hs rfl
    · exact runCommand_pendingLastOutcome hs (sessionInitProc_hangsOnLastRequest _ _) fun _ _ => rfl
  | smbusRamRead | smbusEepromRead => exact runTransaction_pendingLastOutcome hs _

end

/-- Settles O52: a step that runs an instruction found nothing pending, and the word a pending
command holds is no matter of its request. -/
theorem everyStepKeepsThePendingRequestLast : Obligations.EveryStepKeepsThePendingRequestLast := by
  intro s t hs h
  cases step_effect h with
  | waits => exact hs
  | blockReset => exact pendingIsLastRequest_of_none rfl
  | answered => exact hs
  | written r v rest =>
    rcases regWrite_cases r v (s.withInputs rest) with he | ⟨-, -, he⟩ <;> rw [he] <;> exact hs
  | completed w rest u hp hi he hu => exact pendingIsLastRequest_of_none hu
  | stalled w rest u p hp hi he hu =>
    have hlast := exec_pendingLastOutcome (s := s.withInputs rest) hp (decodeWord w) u he
    have hrequest : u.bus.log.getLast? = some p.request := by
      simpa [State.PendingIsLastRequest, hu] using hlast
    exact hang_pendingIsLastRequest.2 hrequest
  | sequenced c i rest t hp hi hd he =>
    exact exec_pendingLastOutcome (s := s.withInputs rest) hp i t he

end Sys2Proof.Machine

/-! PROOF. The temperature converter, NOP and SESSION_CLOSE: O36, O37, O11, O18. -/

namespace Sys2Proof.Machine

/-! ## The converter (R151, R152) -/

/-- Settles O36: the value is `2 * raw - 27315`, hundredths of the document's formula. -/
theorem converterIsExact : Obligations.ConverterIsExact := by
  intro raw
  rw [convTemp_toInt]
  push_cast
  ring

/-- Settles O37: everything but the sentinel is arithmetic on `2 * raw - 27315`, and the sentinel
lies far below it. -/
theorem converterRange : Obligations.ConverterRange := by
  refine ⟨by decide, by decide, fun raw => ?range, fun r q h => ?neighbours, fun r q h => ?strict,
    fun r q h => ?injective⟩
  case range =>
    obtain ⟨hlow, hhigh⟩ := convTemp_inRange raw
    refine ⟨⟨hlow, hhigh⟩, fun hs => ?_, by omega, by omega⟩
    have hsentinel : (0x80000000#32).toInt = -2147483648 := by decide
    rw [hs, hsentinel] at hlow
    omega
  case neighbours => rw [convTemp_toInt, convTemp_toInt]; omega
  case strict => rw [convTemp_toInt, convTemp_toInt]; omega
  case injective =>
    have hint := congrArg BitVec.toInt h
    rw [convTemp_toInt, convTemp_toInt] at hint
    exact BitVec.eq_of_toNat_eq (by omega)

/-! ## NOP and SESSION_CLOSE (R163, R165) -/

theorem decodeWord_nop {w : Word} (hc : codeOf w = 0#4) : decodeWord w = .nop := by
  simp [decodeWord, hc]

theorem decodeWord_sessionClose {w : Word} (hc : codeOf w = 0xA#4) :
    decodeWord w = .sessionClose := by
  simp [decodeWord, hc]

/-- Settles O11. -/
theorem nopOnlyClearsErr : Obligations.NopOnlyClearsErr :=
  ⟨by decide, fun _ hc => decodeWord_nop hc, fun _ => rfl⟩

/-- Settles O18. -/
theorem sessionCloseEndsTheSession : Obligations.SessionCloseEndsTheSession :=
  ⟨by decide, fun _ hc => decodeWord_sessionClose hc, fun _ => rfl⟩

end Sys2Proof.Machine

/-! PROOF. Sequences of reads to their end, and REFRESH: O42, O43, O44. -/

namespace Sys2Proof.Machine

/-! ## A sequence of reads that fails -/

/-- A sequence of reads whose next transfer is answered badly: it ends there, with the error of that
answer, and the requests up to that one are made (R127 to R129). -/
theorem ReadsInOrder.failed {α : Type} {sa cmd : Byte} {cmds : List Byte} {vs : List Half}
    {proc : Ctx → Res α × Ctx} {c : Ctx} {bad : XferAnswer} {code : BitVec 4}
    {rest : List XferAnswer}
    (h : ReadsInOrder sa cmds vs proc) (hcmd : cmds[vs.length]? = some cmd)
    (hsa : sa.toNat < 0x80)
    (hx : c.bus.xfers = List.zipWith (goodAnswer sa) cmds vs ++ bad :: rest)
    (hbad : BadAnswer sa cmd code bad) :
    ∃ k d, k.code = code ∧ proc c = (.err k, d) ∧ d.bus = { c.bus with
      xfers := rest
      log := c.bus.log ++ (cmds.take (vs.length + 1)).map (.xfer sa) } := by
  obtain ⟨crc, next, hp⟩ := h c cmd (bad :: rest) hcmd (fun _ => hsa) hx
  obtain ⟨k, crc', hk, ht⟩ := transact_badAnswer (c := {
    bus := { c.bus with
      xfers := bad :: rest, log := c.bus.log ++ (cmds.take vs.length).map (.xfer sa) }
    txnCrc := crc, staged := c.staged ++ vs }) hsa rfl hbad
  rw [ht, andThen_err] at hp
  refine ⟨k, _, hk, hp, ?_⟩
  simp [BusPort.afterXfer, List.take_add_one, hcmd]

/-! ## A sequence of reads that succeeds -/

/-- TXN_CRC after good answers with the words `vs` to the command bytes `cmds`: the PEC of the last
one (R124). -/
def lastPec (sa : Byte) : List Byte → List Half → Byte → Byte
  | cmd :: cmds, v :: vs, _ =>
    lastPec sa cmds vs (goodPec sa cmd (v.extractLsb' 0 8) (v.extractLsb' 8 8))
  | _, _, crc => crc

/-- A procedure that reads `cmds`, in order, and returns `r` when they are answered well with the
words `vs`. -/
def ReadsReturn {α : Type} (sa : Byte) (cmds : List Byte) (vs : List Half) (r : α)
    (proc : Ctx → Res α × Ctx) : Prop :=
  ∀ (c : Ctx) (rest : List XferAnswer),
    c.bus.xfers = List.zipWith (goodAnswer sa) cmds vs ++ rest →
    proc c = (.ok r,
      { bus := { c.bus with xfers := rest, log := c.bus.log ++ cmds.map (.xfer sa) }
        txnCrc := lastPec sa cmds vs c.txnCrc, staged := c.staged ++ vs })

theorem readsReturn_nil {α : Type} {sa : Byte} {r : α} :
    ReadsReturn sa [] [] r fun c => (.ok r, c) := by
  intro c rest hx
  obtain rfl : c.bus.xfers = rest := hx
  simp [lastPec]

theorem readsReturn_cons {α : Type} {sa a : Byte} {opc : BitVec 3} {cmds : List Byte} {v : Half}
    {vs : List Half} {r : α} {f : Half → Ctx → Res α × Ctx} (hsa : sa.toNat < 0x80)
    (ha : a.toNat < 32) (hf : ReadsReturn sa cmds vs r (f v)) :
    ReadsReturn sa (mapCmd opc a :: cmds) (v :: vs) r fun c => andThen (readTxn sa opc a c) f := by
  intro c rest hx
  dsimp only
  rw [readTxn_good hsa ha hx, andThen_ok, hf _ rest rfl]
  simp [BusPort.afterXfer, lastPec]

/-! ## REFRESH (R160 to R162) -/

theorem refreshBytes_eq : refreshBytes =
    [mapCmd opcRam addrTa, mapCmd opcRam addrTobj1, mapCmd opcRam addrTobj2] := by decide

theorem refreshProc_returns {sa : Byte} (hsa : sa.toNat < 0x80) (ra r1 r2 : Half) :
    ReadsReturn sa refreshBytes [ra, r1, r2] { ta := ra, tobj1 := r1, tobj2 := r2 }
      (refreshProc sa) := by
  rw [refreshBytes_eq]
  exact readsReturn_cons hsa (by decide) <| readsReturn_cons hsa (by decide) <|
    readsReturn_cons hsa (by decide) readsReturn_nil

/-- Settles O42: the three reads return their words, which REFRESH commits converted. -/
theorem refreshCommitsThreeTemperatures : Obligations.RefreshCommitsThreeTemperatures := by
  refine ⟨fun s hv => requireSession_none hv _, fun s ra r1 r2 rest hv hsa hx => ?_⟩
  have hp := refreshProc_returns hsa ra r1 r2 (Ctx.start s) rest hx
  rw [exec_refresh_live hv, runCommand_ok hp]
  rfl

/-- A read that returns a word has made its one request. -/
theorem readTxn_ok_log {sa a : Byte} {opc : BitVec 3} {c d : Ctx} {v : Half} (ha : a.toNat < 32)
    (h : readTxn sa opc a c = (.ok v, d)) :
    d.bus.log = c.bus.log ++ [.xfer sa (mapCmd opc a)] := by
  have hbus : d.bus = (c.bus.askXfer sa (mapCmd opc a)).2 := by
    rw [← transact_bus, ← readTxn_legal ha, h]
  rw [hbus]
  rfl

/-- A REFRESH that returns its three words has made its three requests. -/
theorem refreshProc_ok_log {sa : Byte} {c d : Ctx} {r : RawTriple}
    (h : refreshProc sa c = (.ok r, d)) : d.bus.log = c.bus.log ++ refreshRequests sa := by
  obtain ⟨_, _, hta, h⟩ := andThen_eq_ok h
  obtain ⟨_, _, htobj1, h⟩ := andThen_eq_ok h
  obtain ⟨_, _, htobj2, h⟩ := andThen_eq_ok h
  cases h
  rw [readTxn_ok_log (by decide) htobj2, readTxn_ok_log (by decide) htobj1,
    readTxn_ok_log (by decide) hta, refreshRequests, refreshBytes_eq]
  simp

/-- Settles O43: a REFRESH stopped at a read, and then REFRESH by the ways a command can end. -/
theorem refreshIsAllOrNothing : Obligations.RefreshIsAllOrNothing := by
  refine ⟨fun s vs cmd bad code rest hv hsa hcmd hx hbad => ?stops, fun s t h => ?allOrNothing⟩
  case stops =>
    obtain ⟨k, d, rfl, hp, hbus⟩ :=
      (refreshProc_reads s.slaveAddr vs).failed (c := Ctx.start s) hcmd hsa hx hbad
    rw [exec_refresh_live hv, runCommand_err hp, hbus, refreshRequests, List.map_take]
    rfl
  case allOrNothing =>
    cases hv : s.verified with
    | false =>
      rw [exec, execRefresh, requireSession_none hv] at h
      cases h; exact .inl ⟨rfl, rfl, rfl, rfl⟩
    | true =>
      rw [exec_refresh_live hv] at h
      rcases runCommand_cases (encodeWord .refresh) s (refreshProc s.slaveAddr) commitRefresh with
        ⟨r, d, hp, he⟩ | ⟨k, d, -, he⟩ | ⟨q, d, -, he⟩ <;> rw [he] at h <;> cases h
      · exact .inr ⟨rfl, rfl, refreshProc_ok_log hp⟩
      · exact .inl ⟨rfl, rfl, rfl, rfl⟩
      · exact .inl ⟨rfl, rfl, rfl, rfl⟩

/-- Settles O44: REFRESH commits, raises an error or stays pending. -/
theorem refreshLeavesTheOtherRegisters : Obligations.RefreshLeavesTheOtherRegisters := by
  intro s t h
  cases exec_effect h with
  | refresh | error | pending => rfl
  | read _ _ _ _ hr => cases hr
  | transaction _ _ _ hf => cases hf

end Sys2Proof.Machine

/-! PROOF. SESSION_INIT: O38, O39, O40. -/

namespace Sys2Proof.Machine

/-! ## SESSION_INIT after its bind -/

/-- The bus port after a BIND request was answered. -/
def BusPort.afterBind (p : BusPort) (sa : Byte) (brest : List BindAnswer) : BusPort :=
  { p with binds := brest, log := p.log ++ [.bind sa] }

/-- What a command holds after a bind that was its first request. -/
def Ctx.bound (s : State) (brest : List BindAnswer) : Ctx :=
  { Ctx.start s with bus := s.bus.afterBind s.slaveAddr brest }

/-- SESSION_INIT after its bind: the stored address, its check, the diagnostic reads (R155). -/
def sessionInitReads (mode : AddrCheckMode) (sa : Byte) (c : Ctx) : Res Diagnostics × Ctx :=
  andThen (readTxn sa opcEeprom addrStored c) fun stored c =>
    if addrOk mode stored sa then readDiagnostics sa stored c else (.err .addressMismatch, c)

section
variable {s : State} {brest : List BindAnswer} {d : Ctx} {k : ErrKind}

theorem bindPort_fail {sa : Byte} {c : Ctx} (hb : c.bus.binds = .fail :: brest) :
    bindPort sa c = (.err .ioError, { c with bus := c.bus.afterBind sa brest }) := by
  simp [bindPort, BusPort.askBind, hb, BusPort.afterBind]

theorem sessionInitProc_bound (hb : s.bus.binds = .ok :: brest) (mode : AddrCheckMode) :
    sessionInitProc mode s.slaveAddr (Ctx.start s) =
      sessionInitReads mode s.slaveAddr (Ctx.bound s brest) :=
  congrArg (andThen · _) (bindPort_ok hb)

/-- A SESSION_INIT whose reads end in an error writes ERR and no other register. -/
theorem exec_sessionInit_err (hv : s.verified = false) (hb : s.bus.binds = .ok :: brest)
    (h : sessionInitReads s.addrCheckMode s.slaveAddr (Ctx.bound s brest) = (.err k, d)) :
    exec .sessionInit s = .next { s with err := k.code, bus := d.bus } := by
  rw [exec_sessionInit_noSession hv, runCommand_err ((sessionInitProc_bound hb _).trans h)]
  rfl

theorem afterBind_afterXfer (p : BusPort) (sa : Byte) (r : BusRequest) (xrest : List XferAnswer) :
    (p.afterBind sa brest).afterXfer r xrest =
      { binds := brest, xfers := xrest, log := p.log ++ [.bind sa, r] } := by
  simp [BusPort.afterBind, BusPort.afterXfer]

/-- A SESSION_INIT that ends in an error at its first read has made two requests. -/
theorem exec_sessionInit_firstRead_err {crc : Byte} {staged : List Half} {xrest : List XferAnswer}
    (hv : s.verified = false) (hb : s.bus.binds = .ok :: brest)
    (h : sessionInitReads s.addrCheckMode s.slaveAddr (Ctx.bound s brest) = (.err k,
      { bus := (s.bus.afterBind s.slaveAddr brest).afterXfer (.xfer s.slaveAddr 0x2E#8) xrest
        txnCrc := crc, staged := staged })) :
    exec .sessionInit s = .next { s with
      err := k.code
      bus :=
        { binds := brest, xfers := xrest
          log := s.bus.log ++ [.bind s.slaveAddr, .xfer s.slaveAddr 0x2E#8] } } := by
  rw [exec_sessionInit_err hv hb h, afterBind_afterXfer]

end

/-! ## The reads of SESSION_INIT -/

theorem mapCmd_addrStored : mapCmd opcEeprom addrStored = 0x2E#8 := by decide

section
variable {mode : AddrCheckMode} {sa : Byte} {c : Ctx} {xrest : List XferAnswer}

/-- The stored address is read by one transaction, whose failure ends SESSION_INIT. -/
theorem sessionInitReads_err {k : ErrKind} {d : Ctx} (h : transact sa 0x2E#8 c = (.err k, d)) :
    sessionInitReads mode sa c = (.err k, d) := by
  rw [sessionInitReads, readTxn_legal (by decide), mapCmd_addrStored, h, andThen_err]

/-- A stored address that is read well but does not pass the check ends SESSION_INIT (R157). -/
theorem sessionInitReads_mismatch {st : Half} (hsa : sa.toNat < 0x80)
    (hx : c.bus.xfers = goodAnswer sa 0x2E#8 st :: xrest) (hst : ¬ AddrCheckPasses mode st sa) :
    sessionInitReads mode sa c = (.err .addressMismatch,
      { bus := c.bus.afterXfer (.xfer sa 0x2E#8) xrest
        txnCrc := goodPec sa 0x2E#8 (st.extractLsb' 0 8) (st.extractLsb' 8 8)
        staged := c.staged ++ [st] }) := by
  rw [← mapCmd_addrStored] at hx ⊢
  rw [sessionInitReads, readTxn_good hsa (by decide) hx, andThen_ok,
    if_neg (mt (addrOk_iff ..).1 hst)]

theorem sessionInitBytes_eq : sessionInitBytes =
    [mapCmd opcEeprom addrStored, mapCmd opcEeprom addrChipId0, mapCmd opcEeprom addrChipId1,
      mapCmd opcEeprom addrChipId2, mapCmd opcEeprom addrChipId3, mapCmd opcEeprom addrEmissivity,
      mapCmd opcEeprom addrConfig] := by decide

theorem sessionInitReads_returns {st : Half} (hsa : sa.toNat < 0x80)
    (hst : AddrCheckPasses mode st sa) (i0 i1 i2 i3 em cf : Half) :
    ReadsReturn sa sessionInitBytes [st, i0, i1, i2, i3, em, cf]
      { stored := st, id0 := i0, id1 := i1, id2 := i2, id3 := i3, em := em, cf := cf }
      (sessionInitReads mode sa) := by
  rw [sessionInitBytes_eq]
  refine readsReturn_cons hsa (by decide) ?_
  simp only [(addrOk_iff ..).2 hst, if_true]
  exact readsReturn_cons hsa (by decide) <| readsReturn_cons hsa (by decide) <|
    readsReturn_cons hsa (by decide) <| readsReturn_cons hsa (by decide) <|
    readsReturn_cons hsa (by decide) <| readsReturn_cons hsa (by decide) readsReturn_nil

end

/-! ## SESSION_INIT (R155 to R158) -/

/-- Without a session the invariants of R29 leave no temperature. -/
theorem sentinel_of_noSession {s : State} (hs : s.SessionInvariant) (hv : s.verified = false) :
    s.tempValid = false ∧ s.tempTa = 0x80000000#32 ∧ s.tempTobj1 = 0x80000000#32 ∧
      s.tempTobj2 = 0x80000000#32 := by
  obtain ⟨hlive, hsentinel, -, -⟩ := hs
  have ht : s.tempValid = false := Bool.eq_false_iff.2 fun ht => by simp [hlive ht] at hv
  exact ⟨ht, hsentinel ht⟩

/-- Settles O38: after the bind the seven reads return their words, which SESSION_INIT commits. -/
theorem sessionInitCommitsEverythingAtOnce : Obligations.SessionInitCommitsEverythingAtOnce := by
  intro s st i0 i1 i2 i3 em cf brest xrest hv hsa hb hx hst
  refine ⟨?commits, fun hs => sentinel_of_noSession hs hv⟩
  have hp := (sessionInitProc_bound hb s.addrCheckMode).trans
    (sessionInitReads_returns hsa hst i0 i1 i2 i3 em cf (Ctx.bound s brest) xrest hx)
  have hlog : s.bus.log ++ [.bind s.slaveAddr] ++ sessionInitBytes.map (.xfer s.slaveAddr) =
      s.bus.log ++ sessionInitRequests s.slaveAddr := List.append_assoc ..
  rw [exec_sessionInit_noSession hv, runCommand_ok hp, ← hlog]
  rfl

/-- Settles O39: the session, the bind, then the first read by its answer. -/
theorem sessionInitFirstChecks : Obligations.SessionInitFirstChecks := by
  refine fun s => ⟨fun hv => ?live, fun brest hv hb => ?bind,
    fun st brest xrest hv hsa hb hx hst => ?mismatch,
    fun b0 b1 b2 brest xrest hv hsa hb hx => ?illegal, fun brest xrest hv _ hb hx => ?fail⟩
  case live =>
    rw [exec, execSessionInit, if_pos hv]
    rfl
  case bind =>
    have hp : sessionInitProc s.addrCheckMode s.slaveAddr (Ctx.start s) = _ :=
      congrArg (andThen · _) (bindPort_fail hb)
    rw [exec_sessionInit_noSession hv, runCommand_err hp]
    rfl
  case mismatch =>
    exact exec_sessionInit_firstRead_err hv hb (sessionInitReads_mismatch hsa hx hst)
  case illegal =>
    exact exec_sessionInit_firstRead_err hv hb (sessionInitReads_err (transact_illegal hsa hx))
  case fail => exact exec_sessionInit_firstRead_err hv hb (sessionInitReads_err (transact_fail hx))

/-- Settles O40: after the bind the reads stop at the failing one, before any commit. -/
theorem sessionInitAbortsAtTheFirstBadRead : Obligations.SessionInitAbortsAtTheFirstBadRead := by
  intro s vs cmd bad code brest xrest hv hsa hb hcmd hx hst hbad
  obtain ⟨k, d, rfl, hp, hbus⟩ :=
    (sessionInit_reads hst).failed (c := Ctx.bound s brest) hcmd hsa hx hbad
  have hlog : s.bus.log ++ [.bind s.slaveAddr] ++
      (sessionInitBytes.take (vs.length + 1)).map (.xfer s.slaveAddr) =
      s.bus.log ++ (sessionInitRequests s.slaveAddr).take (vs.length + 2) := by
    simp [sessionInitRequests]
  rw [exec_sessionInit_err hv hb hp, hbus, ← hlog]
  rfl

end Sys2Proof.Machine

/-! PROOF. The requests of a command, in the order of its rule and without retry: O54. -/

namespace Sys2Proof.Machine

/-! ## Requests in the order of a rule (R155, R160, R188)

A procedure is a chain of calls, each of one request, and the first call that does not return a
value ends the chain: so the requests made are the first ones of the list, and all of it when a
value comes back. -/

/-- A procedure that makes one request, whatever the port answers. -/
def MakesRequest {α : Type} (r : BusRequest) (proc : Ctx → Res α × Ctx) : Prop :=
  ∀ c, (proc c).2.bus.log = c.bus.log ++ [r]

/-- A procedure whose requests are the first ones of `rs`, and all of `rs` when it returns a
value. -/
def RequestsInOrder {α : Type} (rs : List BusRequest) (proc : Ctx → Res α × Ctx) : Prop :=
  ∀ c, ∃ k ≤ rs.length, (proc c).2.bus.log = c.bus.log ++ rs.take k ∧
    ∀ v d, proc c = (.ok v, d) → k = rs.length

theorem bindPort_makesRequest (sa : Byte) : MakesRequest (.bind sa) (bindPort sa) := by
  intro c
  rcases bindPort_cases sa c with ⟨-, h⟩ | ⟨-, h⟩ | ⟨-, h⟩ <;> rw [h] <;> rfl

theorem readTxn_makesRequest {a : Byte} (ha : a.toNat < 32) (sa : Byte) (opc : BitVec 3) :
    MakesRequest (.xfer sa (mapCmd opc a)) (readTxn sa opc a) := by
  intro c
  rw [readTxn_legal ha, transact_bus]
  rfl

theorem requestsInOrder_ok {α : Type} (v : α) : RequestsInOrder [] fun c => (.ok v, c) :=
  fun _ => ⟨0, le_rfl, (List.append_nil _).symm, fun _ _ _ => rfl⟩

/-- An error ends a procedure at any place of its list. -/
theorem requestsInOrder_err {α : Type} (rs : List BusRequest) (k : ErrKind) :
    RequestsInOrder (α := α) rs fun c => (.err k, c) :=
  fun _ => ⟨0, Nat.zero_le _, (List.append_nil _).symm, nofun⟩

/-- One more request in front. -/
theorem requestsInOrder_cons {α β : Type} {r : BusRequest} {rs : List BusRequest}
    {p : Ctx → Res α × Ctx} {f : α → Ctx → Res β × Ctx} (hp : MakesRequest r p)
    (hf : ∀ v, RequestsInOrder rs (f v)) :
    RequestsInOrder (r :: rs) fun c => andThen (p c) f := by
  intro c
  have hlog := hp c
  rcases andThen_cases (p c) f with ⟨v, d, hd, he⟩ | ⟨k, d, hd, he⟩ | ⟨q, d, hd, he⟩ <;>
    rw [hd] at hlog <;> dsimp only at hlog ⊢ <;> rw [he]
  · obtain ⟨k, hk, hrest, hall⟩ := hf v d
    refine ⟨k + 1, Nat.succ_le_succ hk, ?_, fun u e h => congrArg (· + 1) (hall u e h)⟩
    rw [hrest, hlog, List.take_succ_cons, List.append_assoc, List.singleton_append]
  · exact ⟨1, Nat.succ_le_succ (Nat.zero_le _), hlog, nofun⟩
  · exact ⟨1, Nat.succ_le_succ (Nat.zero_le _), hlog, nofun⟩

theorem sessionInitRequests_eq (sa : Byte) : sessionInitRequests sa =
    [.bind sa, .xfer sa (mapCmd opcEeprom addrStored), .xfer sa (mapCmd opcEeprom addrChipId0),
      .xfer sa (mapCmd opcEeprom addrChipId1), .xfer sa (mapCmd opcEeprom addrChipId2),
      .xfer sa (mapCmd opcEeprom addrChipId3), .xfer sa (mapCmd opcEeprom addrEmissivity),
      .xfer sa (mapCmd opcEeprom addrConfig)] := by
  rw [sessionInitRequests, sessionInitBytes_eq]
  rfl

theorem refreshRequests_eq (sa : Byte) : refreshRequests sa =
    [.xfer sa (mapCmd opcRam addrTa), .xfer sa (mapCmd opcRam addrTobj1),
      .xfer sa (mapCmd opcRam addrTobj2)] := by
  rw [refreshRequests, refreshBytes_eq]
  rfl

/-- The bind and the seven reads of SESSION_INIT (R155). -/
theorem sessionInitProc_requestsInOrder (mode : AddrCheckMode) (sa : Byte) :
    RequestsInOrder (sessionInitRequests sa) (sessionInitProc mode sa) := by
  rw [sessionInitRequests_eq]
  refine requestsInOrder_cons (bindPort_makesRequest sa) fun _ =>
    requestsInOrder_cons (readTxn_makesRequest (by decide) _ _) fun stored => ?_
  split
  · exact requestsInOrder_cons (readTxn_makesRequest (by decide) _ _) fun _ =>
      requestsInOrder_cons (readTxn_makesRequest (by decide) _ _) fun _ =>
      requestsInOrder_cons (readTxn_makesRequest (by decide) _ _) fun _ =>
      requestsInOrder_cons (readTxn_makesRequest (by decide) _ _) fun _ =>
      requestsInOrder_cons (readTxn_makesRequest (by decide) _ _) fun _ =>
      requestsInOrder_cons (readTxn_makesRequest (by decide) _ _) fun _ => requestsInOrder_ok _
  · exact requestsInOrder_err _ _

/-- The three reads of REFRESH (R160). -/
theorem refreshProc_requestsInOrder (sa : Byte) :
    RequestsInOrder (refreshRequests sa) (refreshProc sa) := by
  rw [refreshRequests_eq]
  exact requestsInOrder_cons (readTxn_makesRequest (by decide) _ _) fun _ =>
    requestsInOrder_cons (readTxn_makesRequest (by decide) _ _) fun _ =>
    requestsInOrder_cons (readTxn_makesRequest (by decide) _ _) fun _ => requestsInOrder_ok _

/-- The state `t` comes from `s` by the first requests of `rs`; all of them were made, or the two
flags of the session are as they were. -/
def FollowsRule (rs : List BusRequest) (s t : State) : Prop :=
  ∃ k ≤ rs.length, t.bus.log = s.bus.log ++ rs.take k ∧
    (k = rs.length ∨ (t.verified = s.verified ∧ t.tempValid = s.tempValid))

/-- An error raised before any request. -/
theorem raise_followsRule (rs : List BusRequest) (s : State) (k : ErrKind) :
    FollowsRule rs s (s.raise k) :=
  ⟨0, Nat.zero_le _, (List.append_nil _).symm, .inr ⟨rfl, rfl⟩⟩

theorem runCommand_followsRule {α : Type} {w : Word} {s t : State} {rs : List BusRequest}
    {proc : Ctx → Res α × Ctx} {commit : α → State → State} (hp : RequestsInOrder rs proc)
    (h : runCommand w s proc commit = .next t) (hc : ∀ v u, (commit v u).bus = u.bus) :
    FollowsRule rs s t := by
  obtain ⟨k, hk, hlog, hall⟩ := hp (Ctx.start s)
  refine ⟨k, hk, (congrArg BusPort.log (runCommand_bus hc h)).trans hlog, ?_⟩
  rcases runCommand_cases w s proc commit with ⟨v, d, hok, he⟩ | ⟨e, d, -, he⟩ | ⟨q, d, -, he⟩ <;>
    rw [he] at h <;> cases h
  · exact .inl (hall v d hok)
  · exact .inr ⟨rfl, rfl⟩
  · exact .inr ⟨rfl, rfl⟩

theorem exec_sessionInit_followsRule {s t : State} (h : exec .sessionInit s = .next t) :
    FollowsRule (sessionInitRequests s.slaveAddr) s t := by
  cases hv : s.verified with
  | false =>
    rw [exec_sessionInit_noSession hv] at h
    exact runCommand_followsRule (sessionInitProc_requestsInOrder _ _) h fun _ _ => rfl
  | true =>
    rw [exec, execSessionInit, if_pos hv] at h
    cases h; exact raise_followsRule _ s _

theorem exec_refresh_followsRule {s t : State} (h : exec .refresh s = .next t) :
    FollowsRule (refreshRequests s.slaveAddr) s t := by
  cases hv : s.verified with
  | false =>
    rw [exec, execRefresh, requireSession_none hv] at h
    cases h; exact raise_followsRule _ s _
  | true =>
    rw [exec_refresh_live hv] at h
    exact runCommand_followsRule (refreshProc_requestsInOrder _) h fun _ _ => rfl

/-! ## Instructions of at most one request -/

/-- A command that uses no bus leaves the port as it was. -/
theorem exec_bus_eq {i : Instr} {s t : State} (hi : usesBus i = false)
    (h : exec i s = .next t) : t.bus = s.bus := by
  cases exec_effect h with
  | nop | crcReset | crcPutByte | crcPutSa | sessionClose => rfl
  | error _ _ _ _ _ hb => exact hb hi
  | pending _ _ hb => cases hi.symm.trans hb
  | sessionInit | refresh | readConfig => cases hi
  | read _ _ _ _ hr => cases i <;> cases hi <;> cases hr
  | transaction _ _ _ hf => cases i <;> cases hi <;> cases hf

/-- An outcome whose next state, if it has one, comes from `s` with at most one request. -/
def AtMostOneRequest (s : State) (o : StepOutcome) : Prop :=
  ∀ t, o = .next t → ∃ made : List BusRequest, made.length ≤ 1 ∧ t.bus.log = s.bus.log ++ made

section
variable {s : State}

/-- A next state with the port untouched. -/
theorem atMostOneRequest_of_bus_eq {t : State} (h : t.bus = s.bus) :
    AtMostOneRequest s (.next t) := by
  rintro _ ⟨⟩
  exact ⟨[], Nat.zero_le _, by rw [h, List.append_nil]⟩

theorem requireSession_atMostOneRequest {body : StepOutcome} (hb : AtMostOneRequest s body) :
    AtMostOneRequest s (requireSession s body) := by
  rcases requireSession_cases s body with ⟨-, h⟩ | ⟨-, h⟩ <;> rw [h]
  · exact hb
  · exact atMostOneRequest_of_bus_eq rfl

/-- A command over one ReadTxn makes the request of that, or none (R121). -/
theorem runCommand_readTxn_atMostOneRequest (w : Word) (sa : Byte) (opc : BitVec 3) (a : Byte)
    {commit : Half → State → State} (hc : ∀ v u, (commit v u).bus = u.bus) :
    AtMostOneRequest s (runCommand w s (readTxn sa opc a) commit) := by
  intro t h
  rw [runCommand_bus hc h]
  rcases readTxn_bus sa opc a (Ctx.start s) with he | he <;> rw [he]
  · exact ⟨[], Nat.zero_le _, (List.append_nil _).symm⟩
  · exact ⟨[.xfer sa (mapCmd opc a)], le_rfl, rfl⟩

theorem readCommand_atMostOneRequest (w : Word) (opc : BitVec 3) (a : Byte) :
    AtMostOneRequest s (readCommand w opc a s) := by
  unfold readCommand
  split
  · exact runCommand_readTxn_atMostOneRequest _ _ _ _ fun _ _ => rfl
  · exact atMostOneRequest_of_bus_eq rfl

/-- A transaction run alone makes its own request. -/
theorem runTransaction_atMostOneRequest (cmd : Byte) :
    AtMostOneRequest s (runTransaction cmd s) := by
  have hbus := transact_bus s.slaveAddr cmd (Ctx.start s)
  rcases runTransaction_cases cmd s with ⟨v, c, hr, h⟩ | ⟨k, c, hr, h⟩ | ⟨q, c, hr, h⟩ <;>
    rw [hr] at hbus <;> rw [h] <;> rintro _ ⟨⟩ <;>
    exact ⟨[.xfer s.slaveAddr cmd], le_rfl, congrArg BusPort.log hbus⟩

end

/-- Every instruction but the two with a list of requests makes at most one. -/
theorem exec_atMostOneRequest {i : Instr} (s : State) (hi : i ≠ .sessionInit)
    (hr : i ≠ .refresh) : AtMostOneRequest s (exec i s) := by
  cases i with
  | sessionInit => exact absurd rfl hi
  | refresh => exact absurd rfl hr
  | read | readReservedOpc =>
    exact requireSession_atMostOneRequest (readCommand_atMostOneRequest _ _ _)
  | readRam | readEeprom | readConfig =>
    exact requireSession_atMostOneRequest
      (runCommand_readTxn_atMostOneRequest _ _ _ _ fun _ _ => rfl)
  | smbusRamRead | smbusEepromRead => exact runTransaction_atMostOneRequest _
  | nop | crcReset | crcPutByte | crcPutSa | readFlags | writeEeprom | sessionClose | reservedB
  | reservedC | reservedD | reservedE | reservedF =>
    exact fun _ h => atMostOneRequest_of_bus_eq (exec_bus_eq rfl h) _ rfl

/-- Settles O54: a chain of requests stops at its first bad answer, and only a chain that went to
its end changes a flag of the session. -/
theorem requestsFollowTheRuleWithoutRetry : Obligations.RequestsFollowTheRuleWithoutRetry := by
  refine ⟨fun s t h => ?sessionInit, fun s t h => ?refresh,
    fun i s t hi hr h => exec_atMostOneRequest s hi hr t h, fun i s t hi h => exec_bus_eq ?noBus h⟩
  case sessionInit =>
    obtain ⟨k, hk, hlog, hall⟩ := exec_sessionInit_followsRule h
    refine ⟨k, hk, hlog, fun hs ht => hall.resolve_right fun ⟨hkept, _⟩ => ?_⟩
    rw [hs, ht] at hkept
    cases hkept
  case refresh =>
    obtain ⟨k, hk, hlog, hall⟩ := exec_refresh_followsRule h
    refine ⟨k, hk, hlog, fun hs ht => hall.resolve_right fun ⟨_, hkept⟩ => ?_⟩
    rw [hs, ht] at hkept
    cases hkept
  case noBus =>
    obtain hi | ⟨_, rfl⟩ | ⟨_, _, rfl⟩ | ⟨_, rfl⟩ := hi
    · clear h; revert i; decide
    · rfl
    · rfl
    · rfl

end Sys2Proof.Machine

/-! PROOF. Block reset, register by register: O8. -/

namespace Sys2Proof.Machine

/-- The fixed reset state holds the values of R210. -/
theorem reset_atReset : State.reset.AtReset := by decide

/-- Block reset takes its registers, TXN_CRC and the pending command from the reset state (R211),
so R210 holds whatever the state before it was. -/
theorem blockReset_atReset (s : State) : s.blockReset.AtReset := reset_atReset

/-- Neither taking the input nor the reset itself makes a request (R212). -/
theorem blockReset_withInputs_log (s : State) (rest : List Input) :
    (s.withInputs rest).blockReset.bus.log = s.bus.log := by
  rw [State.blockReset_bus, State.withInputs_bus]

/-- Settles O8: the step on a block reset input is `State.blockReset`, with a command pending or
not. -/
theorem blockResetSetsEveryRegister : Obligations.BlockResetSetsEveryRegister :=
  ⟨reset_atReset, fun s rest hi =>
    ⟨(s.withInputs rest).blockReset, step_blockReset hi, blockReset_atReset _,
      blockReset_withInputs_log s rest⟩⟩

end Sys2Proof.Machine
